-- ==== Sys2Proof/Word.lean ====
section
/-! DEFINITION. The word types of the DS-TWR Sequencer (00_scope.md R7, R14). -/

namespace Sys2Proof

/-- `u8`: a byte of a frame, of a stream or of TXBUF. -/
abbrev Byte := BitVec 8
/-- `u16`: the antenna delay, the activity parameter. -/
abbrev U16 := BitVec 16
/-- `u32`: a truncated timestamp, an interval, a command or event word. -/
abbrev U32 := BitVec 32
/-- `u64` (or `s64`, read two's complement): a widened timestamp, `TOF_DTU`. -/
abbrev U64 := BitVec 64

end Sys2Proof
end

