-- ==== Sys2Proof/Syntax.lean ====
section
/-! DEFINITION. The syntax of the DS-TWR Sequencer: frame types, selectors, events, commands, the
result record, and `Instr`, one constructor per row of the opcode table (30_encoding.md R101). -/

namespace Sys2Proof

/-- The common 10-byte header of a frame type, byte 2 zero (R6, R83; glossary "Template"). -/
abbrev Template := Vector Byte 10

/-- The three wire frame types (R80). -/
inductive FrameType where
  | poll | response | final
  deriving DecidableEq, Repr

/-- Start mode of a transmission: MODE of a TX command (R91), `FINAL_TX_MODE` (R6). -/
inductive TxMode where
  | immediate | delayed
  deriving DecidableEq, Repr

/-- RXTO, the receive timeout selector of R91 (code 3 is reserved). -/
inductive RxTimeout where
  | noTimeout | resp | final
  deriving DecidableEq, Repr

/-- DSEL, the delay selector of a WAIT (R91; codes 2 and 3 are reserved). -/
inductive DelaySel where
  | interRanging | finalRepeatPause
  deriving DecidableEq, Repr

/-- The four recoverable failure kinds of 60_exceptions.md R280. -/
inductive FailKind where
  | transmitFailure | receiveTimeout | receiveError | frameMismatch
  deriving DecidableEq, Repr

/-- A 40-bit timestamp as its five bytes `TS[0..5)`, least significant first (R64, R96). -/
structure TsBytes where
  b0 : Byte
  b1 : Byte
  b2 : Byte
  b3 : Byte
  b4 : Byte
  deriving DecidableEq, Repr

/-- An event word with its data as the block reads it (R95, R96). `reserved` is a word whose CODE is
reserved (0x0, 0x7-0xF): offered, and unexpected (R98 (b), R289). -/
inductive Event where
  | txDone (ts : TsBytes)
  | txErr
  | rxGood (ts : TsBytes) (data : List Byte)
  | rxTimeout
  | rxErr
  | delayDone
  | reserved (code : BitVec 4)
  deriving DecidableEq, Repr

/-- The event classes of R95. -/
inductive EventClass where
  | tx | rx | dly
  deriving DecidableEq, Repr

/-- A command of the block to the driver (R91-R93). -/
inductive Command where
  | tx (mode : TxMode) (rxa : Bool) (rxto : RxTimeout) (dly : U32) (data : List Byte)
  | armRx (rxto : RxTimeout)
  | resetRx
  | clearStatus
  | wait (dsel : DelaySel)
  deriving DecidableEq, Repr

/-- The result record of R97: DEGEN, `TOF_DTU` (two's complement) and the four intervals. -/
structure ResultRecord where
  degen : Bool
  tof : U64
  ra : U32
  rb : U32
  da : U32
  db : U32
  deriving DecidableEq, Repr

/-- The namespaces of 30_encoding.md: the same number is another row in each (log 9). -/
inductive Port where
  | frame | selector | command | event | result | unitFn
  deriving DecidableEq, Repr

/-- Why a decoder gives no instruction. -/
inductive DecodeError where
  /-- the bytes end before the word or its data does -/
  | truncated
  /-- a header that matches none of the three templates (R88) -/
  | unknownFrame
  /-- a state selector outside the 18 of R90 -/
  | reservedSelector
  /-- OP 0x0 or 0x6-0xF (R91) -/
  | reservedOp
  /-- RXTO = 3 (R91) -/
  | reservedRxto
  /-- DSEL = 2 or 3 (R91) -/
  | reservedDsel
  /-- a nonzero reserved bit of a command word (R91) -/
  | reservedBits
  /-- a nonzero field the OP does not use (R91) -/
  | unusedField
  /-- an event word whose CODE is reserved (R95): no row of the table -/
  | reservedEvent
  /-- RW[31:1] nonzero (R97) -/
  | reservedResult
  /-- a unit id outside 0x01-0x10 (R102) -/
  | unknownUnit
  /-- an operand byte of a unit function that names no frame type -/
  | badOperand
  deriving DecidableEq, Repr

/-- One constructor per row of the opcode table, with the row's operands. -/
inductive Instr where
  -- frames (R84-R86)
  | framePoll (seq : Byte)
  | frameResponse (seq actCode : Byte) (actParam : U16)
  | frameFinal (seq : Byte) (pollTx respRx finalTx : U32)
  -- Initiator state actions (R150-R159)
  | iSendPollIssue
  | iSendPollAwait
  | iAwaitResponseAwait
  | iSendFinalIssue
  | iSendFinalAwait
  | iSendFinalRepeatIssue
  | iSendFinalRepeatPause
  | iSendFinalRepeatAwait
  | iIdleIssue
  | iIdleAwait
  -- Responder state actions (R180-R187)
  | rAwaitPollIssue
  | rAwaitPollAwait
  | rSendResponseIssue
  | rSendResponseAwait
  | rAwaitFinalAwait
  | rAwaitFinalRepeatIssue
  | rAwaitFinalRepeatAwait
  | rComputeIssue
  -- commands (R251-R257)
  | cmdTx (mode : TxMode) (rxa : Bool) (rxto : RxTimeout) (dly : U32) (data : List Byte)
  | cmdArmRx (rxto : RxTimeout)
  | cmdResetRx
  | cmdClearStatus
  | cmdWait (dsel : DelaySel)
  -- events (R252, R257, R258)
  | evTxDone (ts : TsBytes)
  | evTxErr
  | evRxGood (ts : TsBytes) (data : List Byte)
  | evRxTimeout
  | evRxErr
  | evDelayDone
  -- the result record (R97)
  | result (degen : Bool) (tof : U64) (ra rb da db : U32)
  -- unit functions (R102)
  | unitEncodePoll (seq : Byte)
  | unitEncodeResponse (seq : Byte)
  | unitEncodeFinal (seq : Byte) (pollTx respRx finalTx : U64)
  | unitDecodeFinalTimestamps (f : List Byte)
  | unitMatchesType (f : List Byte) (t : FrameType)
  | unitDecode32Le (b0 b1 b2 b3 : Byte)
  | unitEncode32Le (v : U32)
  | unitWiden40To64 (b : TsBytes)
  | unitNarrowTo32 (t : U64)
  | unitSub32 (x y : U32)
  | unitAlignDelayedTx (t : U64)
  | unitPredictFinalTx (a : U32) (ant : U16)
  | unitRangingIntervals (pt rr ft prx rtx frx : U32)
  | unitTofDeviceUnits (ra rb da db : U32)
  | unitTimeOfFlight (tof : U64)
  | unitDistance (tof : U64)
  deriving DecidableEq, Repr

end Sys2Proof
end

