-- ==== Sys2Proof/Config.lean ====
section
/-! DEFINITION. The parameter record P of 00_scope.md R6 and the open and free values of the model. -/

namespace Sys2Proof

/-- `LEN_CHECK`: what "length mismatch" means in `matches_type` (R6, R125). -/
inductive LenCheck where
  | exact | headerOnly
  deriving DecidableEq, Repr

/-- `FINAL_RX_SOURCE`: which Final's RX timestamp feeds Rb (R6, R187). -/
inductive FinalRxSource where
  | first | second
  deriving DecidableEq, Repr

/-- A positive rational, the type R6 gives `DTU_SECONDS` and `SPEED_OF_LIGHT`. -/
abbrev PosRat := { q : Rat // 0 < q }

/-- The parameter record P: every field of the table of R6, constant from one reset to the next. A duration is a
number of some unit that the spec does not give, opaque to the block (D17; log 19). -/
structure Params where
  /-- `ROLE`: 0 Initiator, 1 Responder; sampled by reset only (R312) -/
  role : BitVec 1
  /-- `ANT_DLY`: sampled by reset only (R312) -/
  antDly : U16
  /-- `RESP_TO_FINAL_DELAY`, device time units (D16) -/
  respToFinalDelay : U32
  /-- `RESP_RX_TIMEOUT`, the receive timeout after the Poll -/
  respRxTimeout : Nat
  /-- `FINAL_RX_TIMEOUT`, the receive timeout after the Response -/
  finalRxTimeout : Nat
  /-- `INTER_RANGING_DELAY`, the Initiator's wait in Idle -/
  interRangingDelay : Nat
  /-- `FINAL_REPEAT_PAUSE`, the Initiator's pause before the repeated Final -/
  finalRepeatPause : Nat
  /-- `HDR_POLL` -/
  hdrPoll : Template
  /-- `HDR_RESP` -/
  hdrResp : Template
  /-- `HDR_FINAL` -/
  hdrFinal : Template
  /-- `ACT_CODE` -/
  actCode : Byte
  /-- `ACT_PARAM` -/
  actParam : U16
  /-- `LEN_CHECK` -/
  lenCheck : LenCheck
  /-- `FINAL_TX_MODE` -/
  finalTxMode : TxMode
  /-- `FINAL_RX_SOURCE` -/
  finalRxSource : FinalRxSource
  /-- `DTU_SECONDS`, seconds per device time unit (D47) -/
  dtuSeconds : PosRat
  /-- `SPEED_OF_LIGHT`, metres per second (D48) -/
  speedOfLight : PosRat
  deriving DecidableEq, Repr

/-- The template of a frame type (R125). -/
def Params.template (P : Params) : FrameType → Template
  | .poll => P.hdrPoll
  | .response => P.hdrResp
  | .final => P.hdrFinal

/-- The duration a receive timeout selector selects (R91, R254); none for RXTO = 0. -/
def Params.rxTimeout (P : Params) : RxTimeout → Option Nat
  | .noTimeout => none
  | .resp => some P.respRxTimeout
  | .final => some P.finalRxTimeout

/-- The duration a delay selector selects (R91, R257). -/
def Params.delay (P : Params) : DelaySel → Nat
  | .interRanging => P.interRangingDelay
  | .finalRepeatPause => P.finalRepeatPause

/-! ### What the OPEN parameters are in the default record: opaque constants (log 19) -/

/-- `RESP_RX_TIMEOUT`, an OPEN duration (R6, D17); the environment measures it. Safe. -/
opaque Config.respRxTimeout : Nat
/-- `FINAL_RX_TIMEOUT`, an OPEN duration (R6, D17). Safe. -/
opaque Config.finalRxTimeout : Nat
/-- `INTER_RANGING_DELAY`, an OPEN duration (R6, D17). Safe. -/
opaque Config.interRangingDelay : Nat
/-- `FINAL_REPEAT_PAUSE`, an OPEN duration (R6, D17). Safe. -/
opaque Config.finalRepeatPause : Nat

/-- Numerator less one of `DTU_SECONDS`, an OPEN positive rational (R6, D47; log 19). Safe. -/
opaque Config.dtuSecondsNum : Nat
/-- Denominator less one of `DTU_SECONDS` (log 19). Safe. -/
opaque Config.dtuSecondsDen : Nat
/-- Numerator less one of `SPEED_OF_LIGHT`, an OPEN positive rational (R6, D48; log 19). Safe. -/
opaque Config.speedOfLightNum : Nat
/-- Denominator less one of `SPEED_OF_LIGHT` (log 19). Safe. -/
opaque Config.speedOfLightDen : Nat

/-- The positive rational `(n + 1) / (d + 1)`; every positive rational is of this form. -/
def PosRat.ofNats (n d : Nat) : PosRat := ⟨((n : Rat) + 1) / ((d : Rat) + 1), by positivity⟩

/-- `DTU_SECONDS` of the default record. -/
def Config.dtuSeconds : PosRat := PosRat.ofNats Config.dtuSecondsNum Config.dtuSecondsDen
/-- `SPEED_OF_LIGHT` of the default record. -/
def Config.speedOfLight : PosRat := PosRat.ofNats Config.speedOfLightNum Config.speedOfLightDen

/-- The defaults the spec's test vectors use (R6, R83): values of no claim of the source. `ROLE` has
no default; 0 is a DESIGN CHOICE (unsafe, log 2). The OPEN parameters have no value (log 19). -/
def Params.default : Params where
  role := 0#1
  antDly := 0x4034#16
  respToFinalDelay := 0x0C1C0000#32
  respRxTimeout := Config.respRxTimeout
  finalRxTimeout := Config.finalRxTimeout
  interRangingDelay := Config.interRangingDelay
  finalRepeatPause := Config.finalRepeatPause
  hdrPoll := #v[0x41, 0x88, 0x00, 0xCA, 0xDE, 0x57, 0x41, 0x56, 0x45, 0x21]
  hdrResp := #v[0x41, 0x88, 0x00, 0xCA, 0xDE, 0x56, 0x45, 0x57, 0x41, 0x10]
  hdrFinal := #v[0x41, 0x88, 0x00, 0xCA, 0xDE, 0x57, 0x41, 0x56, 0x45, 0x23]
  actCode := 0x02#8
  actParam := 0#16
  lenCheck := .exact
  finalTxMode := .immediate
  finalRxSource := .second
  dtuSeconds := Config.dtuSeconds
  speedOfLight := Config.speedOfLight

/-- FREE VALUE (R263 (b); log 11): the RX timestamp the driver reports for the n-th frame received
through a FRAME row. Safe. -/
opaque Config.rxTimestamp : Nat → BitVec 40

/-- FREE VALUE (R42, R256; log 5): the driver's own status flags after the n-th awaited event. Safe. -/
opaque Config.driverFlags : Nat → BitVec 32

end Sys2Proof
end

