-- ==== Sys2Proof/Machine/State.lean ====
section
/-! DEFINITION. The state of the machine: the architectural registers of 10_state.md R30, the ports,
what the environment owes, and the model's own fields; State.reset (70_reset_and_hazards.md R310). -/

namespace Sys2Proof.Machine

open Sys2Proof

/-- TXBUF as (offset, byte) cells: offsets strictly rising, no byte 0x00, which is what an unlisted
offset reads as (the reset value of R43; 20_memory.md R60, R61; log 17). -/
abbrev Memory := List Host.Cell

/-- A transmission the block has asked for and the driver has not yet answered (R251, R253). -/
structure TxRequest where
  data : List Byte
  /-- none: at once; some t: at the device time t (R251) -/
  start : Option (BitVec 40)
  /-- the timeout selector with which the receiver is armed after TX_DONE, if it is (R253) -/
  rxAfter : Option RxTimeout
  deriving DecidableEq, Repr

/-- What the environment holds on the block's behalf (R46, R251-R257; log 4). -/
structure Env where
  /-- the transmission not yet answered (duty H2) -/
  tx : Option TxRequest
  /-- the armed receiver, with its timeout selector (duty H3) -/
  rx : Option RxTimeout
  /-- the wait not yet ended (duty H4) -/
  timer : Option DelaySel
  /-- the driver's own status flags (R42, R256): a free value after an awaited event (log 5) -/
  flags : BitVec 32
  deriving DecidableEq, Repr

/-- The environment after reset: nothing outstanding (boot requirement (2) of R313); flags 0 is a
DESIGN CHOICE (unsafe, log 5). -/
def Env.idle : Env := ⟨none, none, none, 0#32⟩

/-- One entry of the block's outputs: a command (R92, R93) or a result record (R97). Commands and results
are ordered with each other (R73). -/
inductive Output where
  | cmd (c : Command)
  | res (r : ResultRecord)
  deriving DecidableEq, Repr

/-- The output of a unit function (R102), the model's own (log 8). -/
inductive UnitOut where
  | none
  | bytes (l : List Byte)
  | flag (b : Bool)
  | decodeFail
  | timestamps (a b c : U32)
  | word32 (v : U32)
  | word64 (v : U64)
  | intervals (ra rb da db : U32)
  | tof (v : U64) (degen : Bool)
  | rational (q : Rat)
  deriving DecidableEq, Repr

/-- A word offered to one of the encodings, the model's own (log 7). -/
structure Probe where
  port : Port
  bytes : List Byte
  deriving DecidableEq, Repr

/-- The machine. The first group of fields is the architectural state of R30. -/
structure State where
  /-- STATE, register 0x00 (R32) -/
  state : BitVec 4
  /-- PHASE, register 0x01 (R31) -/
  phase : BitVec 2
  /-- SEQ, register 0x02 (R35) -/
  seq : BitVec 8
  /-- CFG_ROLE, register 0x03 (R34) -/
  cfgRole : BitVec 1
  /-- CFG_ANT_DLY, register 0x04 (R34) -/
  cfgAntDly : U16
  /-- STATUS, register 0x05 (R41) -/
  status : BitVec 8
  /-- T0 poll_tx_ts (R36) -/
  t0 : U64
  /-- T1 resp_rx_ts (R36) -/
  t1 : U64
  /-- T2 final_tx_ts (R36) -/
  t2 : U64
  /-- T3 poll_rx_ts (R37) -/
  t3 : U64
  /-- T4 resp_tx_ts (R37) -/
  t4 : U64
  /-- T5 final_rx_ts (R37) -/
  t5 : U64
  /-- T6 final_rx2_ts (R37) -/
  t6 : U64
  /-- E0 poll_tx_ts_embedded (R37) -/
  e0 : U32
  /-- E1 resp_rx_ts_embedded (R37) -/
  e1 : U32
  /-- E2 final_tx_ts_embedded (R37) -/
  e2 : U32
  /-- VALID, register 0x1F (R38) -/
  valid : BitVec 8
  /-- TXBUF, register 0x20 (R40) -/
  txbuf : Memory
  /-- TXLEN, register 0x21 (R40) -/
  txlen : BitVec 5
  /-- the parameter record P (R6, R48; log 1) -/
  params : Params
  /-- the command and result outputs, one append-only trace in emission order (R48, R73; log 16) -/
  trace : List Output
  /-- the event port: bytes offered and not yet consumed (R96, R100, R260; log 3) -/
  events : List Byte
  /-- what the environment owes (R46; log 4) -/
  env : Env
  /-- the output of the last unit function (R102; log 8) -/
  unitOut : UnitOut
  /-- a word offered outside the block's ports (log 7) -/
  probe : Option Probe
  /-- how many free values have been drawn (log 5, 11) -/
  draws : Nat
  deriving DecidableEq, Repr

/-- Why the machine stops with a fault. -/
inductive Fault where
  /-- An access to TXBUF at an offset of 22 or more, which does not exist (R61). Raised by the load and
  store of TXBUF. Safe: the step stops; no step of the block does such an access. -/
  | txbufOffset (offset : Nat)
  deriving DecidableEq, Repr

/-- Why a step has no meaning. An input that the spec treats as `refuse` is rejected without effect and the
machine goes on (93_implementation_defined.md; log 21, 26), so it is none of these. -/
inductive Refusal where
  /-- An instruction without a meaning, by its mnemonic. Raised by exec's refused arms only (none is
  left). Safe. -/
  | notModelled (mnemonic : String)
  deriving DecidableEq, Repr

/-- What a meaning answers. -/
abbrev Res := Host.Outcome State Fault Refusal

/-- The command output alone (R16). -/
def State.commands (s : State) : List Command :=
  s.trace.filterMap fun o =>
    match o with
    | .cmd c => some c
    | .res _ => none

/-- The result output alone (R16). -/
def State.results (s : State) : List ResultRecord :=
  s.trace.filterMap fun o =>
    match o with
    | .cmd _ => none
    | .res r => some r

/-- The machine right after a reset, from any state, with parameter record P, of which every field may be new (R6,
R312; R310, R43): CFG_ROLE and CFG_ANT_DLY from
ROLE and ANT_DLY, STATE the role's first state, PHASE ISSUE, everything else zero and the outputs
empty. The ports and the environment hold nothing (boot requirement (2) of R313). -/
def State.resetWith (P : Params) : State where
  state := if P.role = 0#1 then 0x0#4 else 0x8#4
  phase := 0#2
  seq := 0#8
  cfgRole := P.role
  cfgAntDly := P.antDly
  status := 0#8
  t0 := 0#64
  t1 := 0#64
  t2 := 0#64
  t3 := 0#64
  t4 := 0#64
  t5 := 0#64
  t6 := 0#64
  e0 := 0#32
  e1 := 0#32
  e2 := 0#32
  valid := 0#8
  txbuf := []
  txlen := 0#5
  params := P
  trace := []
  events := []
  env := Env.idle
  unitOut := .none
  probe := none
  draws := 0

/-- The machine right after reset, under the test-vector defaults with ROLE = 0 (DESIGN CHOICE,
unsafe, log 2). -/
def State.reset : State := State.resetWith Params.default

end Sys2Proof.Machine
end

