-- ==== Sys2Proof/Machine/Flags.lean ====
section
/-! DEFINITION. The flag-like registers: STATUS (10_state.md R41, 60_exceptions.md R280) and VALID
(10_state.md R38). The block has no arithmetic flags (R42). -/

namespace Sys2Proof.Machine

open Sys2Proof

/-- The code of a failure kind in STATUS.LAST_ERR (R280). -/
def failCode : FailKind → BitVec 3
  | .transmitFailure => 1#3
  | .receiveTimeout => 2#3
  | .receiveError => 3#3
  | .frameMismatch => 4#3

/-- LAST_ERR, STATUS[2:0] (R41). -/
def lastErr (status : BitVec 8) : BitVec 3 := status.extractLsb' 0 3

/-- EV_UNEXP, STATUS[3] (R41). -/
def evUnexp (status : BitVec 8) : Bool := status.getLsbD 3

/-- FAULT, STATUS[4] (R41). -/
def faultBit (status : BitVec 8) : Bool := status.getLsbD 4

/-- STATUS with LAST_ERR overwritten, the other bits kept (R41, R283). -/
def withLastErr (status : BitVec 8) (k : FailKind) : BitVec 8 :=
  (status &&& 0xF8#8) ||| (failCode k).setWidth 8

/-- STATUS with the sticky EV_UNEXP set (R289). -/
def withEvUnexp (status : BitVec 8) : BitVec 8 := status ||| 0x08#8

/-- STATUS with the sticky FAULT set (R290, R291). -/
def withFault (status : BitVec 8) : BitVec 8 := status ||| 0x10#8

/-- STATUS with FAULT clear, which only reset and the host's table words do (R41; log 23). -/
def withoutFault (status : BitVec 8) : BitVec 8 := status &&& 0xEF#8

/-- The timestamp registers (R36, R37). -/
inductive TReg where
  | t0 | t1 | t2 | t3 | t4 | t5 | t6
  deriving DecidableEq, Repr

/-- The number i of Ti, and of its bit in VALID (R38). -/
def tIndex : TReg → Nat
  | .t0 => 0
  | .t1 => 1
  | .t2 => 2
  | .t3 => 3
  | .t4 => 4
  | .t5 => 5
  | .t6 => 6

/-- The bit of VALID of the group E0..E2 (R38). -/
def embeddedIndex : Nat := 7

/-- VALID with bit i set (R38). -/
def withValid (valid : BitVec 8) (i : Nat) : BitVec 8 := valid ||| (1#8 <<< i)

/-- VALID after the Initiator's exchange clear: [2:0] cleared (R39). -/
def clearValidInitiator (valid : BitVec 8) : BitVec 8 := valid &&& 0xF8#8

/-- VALID after the Responder's exchange clear: [7:3] cleared (R39). -/
def clearValidResponder (valid : BitVec 8) : BitVec 8 := valid &&& 0x07#8

end Sys2Proof.Machine
end

