-- ==== Sys2Proof/WellFormed.lean ====
section
/-! DEFINITION. Which instructions an encoding can carry, and the parameter constraints of R8. -/

namespace Sys2Proof

/-- `SEQ_IDX` (R81, R82): the offset of the sequence number, the one layout fact of the header. -/
def seqIdx : Nat := 2

/-- LEN is an 8-bit field (R91, R95): a frame in a word is at most 255 bytes (I19). -/
def maxLen : Nat := 255

/-- The constraint (b) of R8 on two templates: they differ outside the sequence byte. -/
def Template.differs (t u : Template) : Bool :=
  (List.range 10).any fun i => i != seqIdx && t.toList[i]? != u.toList[i]?

/-- The premises of R8 (a) and (b) on the parameter record. -/
def Params.wf (P : Params) : Bool :=
  P.hdrPoll.toList[seqIdx]? == some 0#8 && P.hdrResp.toList[seqIdx]? == some 0#8 && P.hdrFinal.toList[seqIdx]? == some 0#8 &&
  Template.differs P.hdrPoll P.hdrResp && Template.differs P.hdrPoll P.hdrFinal &&
  Template.differs P.hdrResp P.hdrFinal

/-- A TX command's fields: LEN holds the length, and RXTO is 0 unless RXA = 1 (R91). -/
def Command.wf : Command → Bool
  | .tx _ rxa rxto _ data => decide (data.length ≤ maxLen) && (rxa || rxto == .noTimeout)
  | .armRx _ | .resetRx | .clearStatus | .wait _ => true

/-- What an encoding of the instruction can carry (R91, R95, R124: lists of at most 255 bytes). -/
def Instr.wf : Instr → Bool
  | .framePoll _ | .frameResponse _ _ _ | .frameFinal _ _ _ _ => true
  | .iSendPollIssue | .iSendPollAwait | .iAwaitResponseAwait | .iSendFinalIssue | .iSendFinalAwait
  | .iSendFinalRepeatIssue | .iSendFinalRepeatPause | .iSendFinalRepeatAwait | .iIdleIssue
  | .iIdleAwait => true
  | .rAwaitPollIssue | .rAwaitPollAwait | .rSendResponseIssue | .rSendResponseAwait
  | .rAwaitFinalAwait | .rAwaitFinalRepeatIssue | .rAwaitFinalRepeatAwait | .rComputeIssue => true
  | .cmdTx m rxa rxto dly data => Command.wf (.tx m rxa rxto dly data)
  | .cmdArmRx _ | .cmdResetRx | .cmdClearStatus | .cmdWait _ => true
  | .evRxGood _ data => decide (data.length ≤ maxLen)
  | .evTxDone _ | .evTxErr | .evRxTimeout | .evRxErr | .evDelayDone => true
  | .result _ _ _ _ _ _ => true
  | .unitDecodeFinalTimestamps f => decide (f.length ≤ maxLen)
  | .unitMatchesType f _ => decide (f.length ≤ maxLen)
  | .unitEncodePoll _ | .unitEncodeResponse _ | .unitEncodeFinal _ _ _ _ => true
  | .unitDecode32Le _ _ _ _ | .unitEncode32Le _ | .unitWiden40To64 _ | .unitNarrowTo32 _ => true
  | .unitSub32 _ _ | .unitAlignDelayedTx _ | .unitPredictFinalTx _ _ => true
  | .unitRangingIntervals _ _ _ _ _ _ | .unitTofDeviceUnits _ _ _ _ => true
  | .unitTimeOfFlight _ | .unitDistance _ => true

end Sys2Proof
end

