-- ==== Sys2Proof/Decode.lean ====
section
/-! DEFINITION. Byte order, the encodings of 30_encoding.md, their decoders (total, rejecting by
name) and encoders, and the table words of the host. -/

namespace Sys2Proof

/-! ### Byte order (R15, R63-R66) -/

/-- `le16(v)` of R15. -/
def le16 (v : U16) : List Byte := [v.extractLsb' 0 8, v.extractLsb' 8 8]

/-- `le32(v)` of R15; `encode_32_le` of R127. -/
def le32 (v : U32) : List Byte :=
  [v.extractLsb' 0 8, v.extractLsb' 8 8, v.extractLsb' 16 8, v.extractLsb' 24 8]

/-- 8 bytes, least significant first (R97). -/
def le64 (v : U64) : List Byte :=
  le32 (v.extractLsb' 0 32) ++ le32 (v.extractLsb' 32 32)

/-- Two bytes read little-endian (R65). -/
def ofLe16 (b0 b1 : Byte) : U16 := b0.setWidth 16 ||| (b1.setWidth 16 <<< 8)

/-- `decode_32_le` of R126. -/
def ofLe32 (b0 b1 b2 b3 : Byte) : U32 :=
  b0.setWidth 32 ||| (b1.setWidth 32 <<< 8) ||| (b2.setWidth 32 <<< 16) ||| (b3.setWidth 32 <<< 24)

/-- Eight bytes read little-endian, from the two words they hold (R97). -/
def ofLe64 (lo hi : U32) : U64 := lo.setWidth 64 ||| (hi.setWidth 64 <<< 32)

/-- The event bytes of a 40-bit timestamp: `TS[i] = ts[8i+7:8i]` (R103). -/
def TsBytes.ofTimestamp (ts : BitVec 40) : TsBytes where
  b0 := ts.extractLsb' 0 8
  b1 := ts.extractLsb' 8 8
  b2 := ts.extractLsb' 16 8
  b3 := ts.extractLsb' 24 8
  b4 := ts.extractLsb' 32 8

/-- The five bytes in stream order (R96). -/
def TsBytes.bytes (t : TsBytes) : List Byte := [t.b0, t.b1, t.b2, t.b3, t.b4]

/-! ### Readers of a byte stream -/

/-- The first byte and the rest. -/
def takeU8 : List Byte → Except DecodeError (Byte × List Byte)
  | b :: rest => .ok (b, rest)
  | _ => .error .truncated

/-- A little-endian 16-bit value and the rest. -/
def takeU16 : List Byte → Except DecodeError (U16 × List Byte)
  | b0 :: b1 :: rest => .ok (ofLe16 b0 b1, rest)
  | _ => .error .truncated

/-- A little-endian 32-bit word and the rest (R100). -/
def takeU32 : List Byte → Except DecodeError (U32 × List Byte)
  | b0 :: b1 :: b2 :: b3 :: rest => .ok (ofLe32 b0 b1 b2 b3, rest)
  | _ => .error .truncated

/-- A little-endian 64-bit value and the rest (R97). -/
def takeU64 (bs : List Byte) : Except DecodeError (U64 × List Byte) := do
  let (lo, bs) ← takeU32 bs
  let (hi, bs) ← takeU32 bs
  .ok (ofLe64 lo hi, bs)

/-- The five bytes of a timestamp and the rest (R96). -/
def takeTs : List Byte → Except DecodeError (TsBytes × List Byte)
  | b0 :: b1 :: b2 :: b3 :: b4 :: rest => .ok (⟨b0, b1, b2, b3, b4⟩, rest)
  | _ => .error .truncated

/-- The first `n` bytes and the rest. -/
def takeBytes (n : Nat) (bs : List Byte) : Except DecodeError (List Byte × List Byte) :=
  if n ≤ bs.length then .ok (bs.take n, bs.drop n) else .error .truncated

/-! ### State selectors (R90) -/

/-- The action of each of the 18 legal selectors; any other value is illegal (R90, R98 (e)). -/
def decodeSelector (ss : BitVec 6) : Except DecodeError Instr :=
  match ss.toNat with
  | 0x00 => .ok .iSendPollIssue
  | 0x01 => .ok .iSendPollAwait
  | 0x05 => .ok .iAwaitResponseAwait
  | 0x08 => .ok .iSendFinalIssue
  | 0x09 => .ok .iSendFinalAwait
  | 0x0C => .ok .iSendFinalRepeatIssue
  | 0x0E => .ok .iSendFinalRepeatPause
  | 0x0D => .ok .iSendFinalRepeatAwait
  | 0x10 => .ok .iIdleIssue
  | 0x11 => .ok .iIdleAwait
  | 0x20 => .ok .rAwaitPollIssue
  | 0x21 => .ok .rAwaitPollAwait
  | 0x24 => .ok .rSendResponseIssue
  | 0x25 => .ok .rSendResponseAwait
  | 0x29 => .ok .rAwaitFinalAwait
  | 0x2C => .ok .rAwaitFinalRepeatIssue
  | 0x2D => .ok .rAwaitFinalRepeatAwait
  | 0x30 => .ok .rComputeIssue
  | _ => .error .reservedSelector

/-- A selector as one byte: its low six bits, the mask 0x3F of R101. -/
def decodeSelectorByte (bs : List Byte) : Except DecodeError (Instr × List Byte) := do
  let (b, bs) ← takeU8 bs
  let i ← decodeSelector (b.extractLsb' 0 6)
  .ok (i, bs)

/-! ### Wire frames (R80-R89) -/

/-- A template with the sequence number in byte `SEQ_IDX` (R84). -/
def Template.withSeq (t : Template) (seq : Byte) : List Byte := t.toList.set seqIdx seq

/-- Bytes 0-9 of a frame equal the template's, the sequence byte apart (R125). -/
def headerMatches (t : Template) (f : List Byte) : Bool :=
  (List.range 10).all fun i => i == seqIdx || f[i]? == t.toList[i]?

/-- The Poll frame (R84). -/
def pollFrame (P : Params) (seq : Byte) : List Byte := P.hdrPoll.withSeq seq

/-- A Response frame with its activity code and parameter (R85). -/
def responseFrame (P : Params) (seq actCode : Byte) (actParam : U16) : List Byte :=
  P.hdrResp.withSeq seq ++ [actCode] ++ le16 actParam

/-- A Final frame with its three 32-bit timestamp fields (R86). -/
def finalFrame (P : Params) (seq : Byte) (pollTx respRx finalTx : U32) : List Byte :=
  P.hdrFinal.withSeq seq ++ le32 pollTx ++ le32 respRx ++ le32 finalTx

/-- The type of a frame is whichever template its header matches (R88). -/
def frameType? (P : Params) (f : List Byte) : Option FrameType :=
  if headerMatches P.hdrPoll f then some .poll
  else if headerMatches P.hdrResp f then some .response
  else if headerMatches P.hdrFinal f then some .final
  else none

/-- A frame on the wire, by its type: the sequence byte and the payload fields (R84-R86). -/
def decodeFrame (P : Params) (bs : List Byte) : Except DecodeError (Instr × List Byte) := do
  let (hdr, r) ← takeBytes 10 bs
  let (seq, _) ← takeU8 (hdr.drop seqIdx)
  match frameType? P hdr with
  | some .poll => .ok (.framePoll seq, r)
  | some .response =>
    let (code, r) ← takeU8 r
    let (param, r) ← takeU16 r
    .ok (.frameResponse seq code param, r)
  | some .final =>
    let (a, r) ← takeU32 r
    let (b, r) ← takeU32 r
    let (c, r) ← takeU32 r
    .ok (.frameFinal seq a b c, r)
  | none => .error .unknownFrame

/-! ### Command words (R91-R94) -/

/-- MODE of R91. -/
def TxMode.code : TxMode → BitVec 1
  | .immediate => 0#1
  | .delayed => 1#1

/-- MODE read. -/
def TxMode.ofBit (b : Bool) : TxMode := if b then .delayed else .immediate

/-- RXTO of R91. -/
def RxTimeout.code : RxTimeout → BitVec 2
  | .noTimeout => 0#2
  | .resp => 1#2
  | .final => 2#2

/-- RXTO read; 3 is reserved. -/
def RxTimeout.ofCode (c : BitVec 2) : Except DecodeError RxTimeout :=
  match c.toNat with
  | 0 => .ok .noTimeout
  | 1 => .ok .resp
  | 2 => .ok .final
  | _ => .error .reservedRxto

/-- DSEL of R91. -/
def DelaySel.code : DelaySel → BitVec 2
  | .interRanging => 0#2
  | .finalRepeatPause => 1#2

/-- DSEL read; 2 and 3 are reserved. -/
def DelaySel.ofCode (c : BitVec 2) : Except DecodeError DelaySel :=
  match c.toNat with
  | 0 => .ok .interRanging
  | 1 => .ok .finalRepeatPause
  | _ => .error .reservedDsel

/-- A command word from its fields; the reserved bits are 0 (R91). -/
def packCommand (op : BitVec 4) (mode rxa : BitVec 1) (rxto dsel : BitVec 2) (len : BitVec 8) :
    U32 :=
  0#8 ++ len ++ 0#6 ++ dsel ++ rxto ++ rxa ++ mode ++ op

/-- The command word `CW` of a command (R91, R94). -/
def commandWord : Command → U32
  | .tx mode rxa rxto _ data =>
    packCommand 1#4 mode.code (BitVec.ofBool rxa) rxto.code 0#2 (BitVec.ofNat 8 data.length)
  | .armRx rxto => packCommand 2#4 0#1 0#1 rxto.code 0#2 0#8
  | .resetRx => packCommand 3#4 0#1 0#1 0#2 0#2 0#8
  | .clearStatus => packCommand 4#4 0#1 0#1 0#2 0#2 0#8
  | .wait dsel => packCommand 5#4 0#1 0#1 0#2 dsel.code 0#8

/-- A command on the stream: `le32(CW)`, and for TX the delay word and the frame (R92, R93, R100). -/
def encodeCommand (c : Command) : List Byte :=
  le32 (commandWord c) ++
    match c with
    | .tx _ _ _ dly data => le32 dly ++ data
    | .armRx _ | .resetRx | .clearStatus | .wait _ => []

/-- The next command of a command stream: the length follows from OP (R100); reserved encodings are
rejected by name (R98 (a), I15; log 25). A word whose fields are all legal is a command, though the block never
emits it: a Delayed TX with an odd DLY, a TX with RXA = 1 and RXTO = 0, an Immediate TX with any DLY, an ARM_RX
with a timeout (DESIGN CHOICE, unsafe, log 27). -/
def decodeCommand (bs : List Byte) : Except DecodeError (Command × List Byte) := do
  let (cw, r) ← takeU32 bs
  let op := cw.extractLsb' 0 4
  let mode := cw.extractLsb' 4 1
  let rxa := cw.extractLsb' 5 1
  let rxto := cw.extractLsb' 6 2
  let dsel := cw.extractLsb' 8 2
  let len := cw.extractLsb' 16 8
  if cw.extractLsb' 10 6 ≠ 0#6 ∨ cw.extractLsb' 24 8 ≠ 0#8 then .error .reservedBits
  else
    match op.toNat with
    | 1 =>
      if dsel ≠ 0#2 ∨ (rxa = 0#1 ∧ rxto ≠ 0#2) then .error .unusedField
      else
        let sel ← RxTimeout.ofCode rxto
        let (dly, r) ← takeU32 r
        let (data, r) ← takeBytes len.toNat r
        .ok (.tx (TxMode.ofBit (mode == 1#1)) (rxa == 1#1) sel dly data, r)
    | 2 =>
      if mode ≠ 0#1 ∨ rxa ≠ 0#1 ∨ dsel ≠ 0#2 ∨ len ≠ 0#8 then .error .unusedField
      else
        let sel ← RxTimeout.ofCode rxto
        .ok (.armRx sel, r)
    | 3 =>
      if mode ≠ 0#1 ∨ rxa ≠ 0#1 ∨ rxto ≠ 0#2 ∨ dsel ≠ 0#2 ∨ len ≠ 0#8 then .error .unusedField
      else .ok (.resetRx, r)
    | 4 =>
      if mode ≠ 0#1 ∨ rxa ≠ 0#1 ∨ rxto ≠ 0#2 ∨ dsel ≠ 0#2 ∨ len ≠ 0#8 then .error .unusedField
      else .ok (.clearStatus, r)
    | 5 =>
      if mode ≠ 0#1 ∨ rxa ≠ 0#1 ∨ rxto ≠ 0#2 ∨ len ≠ 0#8 then .error .unusedField
      else
        let d ← DelaySel.ofCode dsel
        .ok (.wait d, r)
    | _ => .error .reservedOp

/-- A command as an instruction of the table. -/
def Command.toInstr : Command → Instr
  | .tx mode rxa rxto dly data => .cmdTx mode rxa rxto dly data
  | .armRx rxto => .cmdArmRx rxto
  | .resetRx => .cmdResetRx
  | .clearStatus => .cmdClearStatus
  | .wait dsel => .cmdWait dsel

/-! ### Event words (R95, R96) -/

/-- An event word from CODE and LEN; the ignored bits are sent as 0 (R95, R96). -/
def packEvent (code : BitVec 4) (len : BitVec 8) : U32 := 0#16 ++ len ++ 0#4 ++ code

/-- An event on the stream: `le32(EW)` and its data (R96, R100). -/
def encodeEvent : Event → List Byte
  | .txDone ts => le32 (packEvent 1#4 0#8) ++ ts.bytes
  | .txErr => le32 (packEvent 2#4 0#8)
  | .rxGood ts data => le32 (packEvent 3#4 (BitVec.ofNat 8 data.length)) ++ (ts.bytes ++ data)
  | .rxTimeout => le32 (packEvent 4#4 0#8)
  | .rxErr => le32 (packEvent 5#4 0#8)
  | .delayDone => le32 (packEvent 6#4 0#8)
  | .reserved code => le32 (packEvent code 0#8)

/-- The next event of an event stream: the length follows from CODE; bits [7:4] and [31:16] and the
LEN of other events are ignored (R95, R98 (d), R100). It fails only where the stream ends early. -/
def decodeEvent (bs : List Byte) : Except DecodeError (Event × List Byte) := do
  let (ew, r) ← takeU32 bs
  let code := ew.extractLsb' 0 4
  let len := ew.extractLsb' 8 8
  match code.toNat with
  | 1 =>
    let (ts, r) ← takeTs r
    .ok (.txDone ts, r)
  | 2 => .ok (.txErr, r)
  | 3 =>
    let (ts, r) ← takeTs r
    let (data, r) ← takeBytes len.toNat r
    .ok (.rxGood ts data, r)
  | 4 => .ok (.rxTimeout, r)
  | 5 => .ok (.rxErr, r)
  | 6 => .ok (.delayDone, r)
  | _ => .ok (.reserved code, r)

/-- An event as an instruction of the table; a reserved CODE is no row. -/
def Event.toInstr : Event → Except DecodeError Instr
  | .txDone ts => .ok (.evTxDone ts)
  | .txErr => .ok .evTxErr
  | .rxGood ts data => .ok (.evRxGood ts data)
  | .rxTimeout => .ok .evRxTimeout
  | .rxErr => .ok .evRxErr
  | .delayDone => .ok .evDelayDone
  | .reserved _ => .error .reservedEvent

/-! ### The result record (R97) -/

/-- The 28 bytes of a result record: RW, `TOF_DTU`, Ra, Rb, Da, Db (R97). R97 gives RW as a word and no byte order:
it is sent least significant byte first, like every word of R100 (DEDUCED, unsafe, log 28). -/
def encodeResult (r : ResultRecord) : List Byte :=
  le32 (0#31 ++ BitVec.ofBool r.degen) ++ le64 r.tof ++ le32 r.ra ++ le32 r.rb ++ le32 r.da ++
    le32 r.db

/-- A result record read back, RW least significant byte first (log 28); RW[31:1] must be 0 (R97). -/
def decodeResult (bs : List Byte) : Except DecodeError (ResultRecord × List Byte) := do
  let (rw, r) ← takeU32 bs
  if rw.extractLsb' 1 31 ≠ 0#31 then .error .reservedResult
  else
    let (tof, r) ← takeU64 r
    let (ra, r) ← takeU32 r
    let (rb, r) ← takeU32 r
    let (da, r) ← takeU32 r
    let (db, r) ← takeU32 r
    .ok (⟨rw.extractLsb' 0 1 == 1#1, tof, ra, rb, da, db⟩, r)

/-! ### Unit functions (R102); operand bytes: DESIGN CHOICE (safe, log 10) -/

/-- The frame type operand of `matches_type` as a byte (log 10). -/
def FrameType.code : FrameType → Byte
  | .poll => 0#8
  | .response => 1#8
  | .final => 2#8

/-- The frame type operand read. -/
def FrameType.ofCode (b : Byte) : Except DecodeError FrameType :=
  match b.toNat with
  | 0 => .ok .poll
  | 1 => .ok .response
  | 2 => .ok .final
  | _ => .error .badOperand

/-- A byte list operand: its length, then the bytes (log 10). -/
def lenBytes (f : List Byte) : List Byte := BitVec.ofNat 8 f.length :: f

/-- A byte list operand read. -/
def takeLenBytes (bs : List Byte) : Except DecodeError (List Byte × List Byte) := do
  let (n, r) ← takeU8 bs
  takeBytes n.toNat r

/-- A unit function by its id (R102), its operands in the order the table gives them. -/
def decodeUnit (bs : List Byte) : Except DecodeError (Instr × List Byte) := do
  let (id, r) ← takeU8 bs
  match id.toNat with
  | 0x01 =>
    let (seq, r) ← takeU8 r
    .ok (.unitEncodePoll seq, r)
  | 0x02 =>
    let (seq, r) ← takeU8 r
    .ok (.unitEncodeResponse seq, r)
  | 0x03 =>
    let (seq, r) ← takeU8 r
    let (a, r) ← takeU64 r
    let (b, r) ← takeU64 r
    let (c, r) ← takeU64 r
    .ok (.unitEncodeFinal seq a b c, r)
  | 0x04 =>
    let (f, r) ← takeLenBytes r
    .ok (.unitDecodeFinalTimestamps f, r)
  | 0x05 =>
    let (f, r) ← takeLenBytes r
    let (c, r) ← takeU8 r
    let t ← FrameType.ofCode c
    .ok (.unitMatchesType f t, r)
  | 0x06 =>
    let (b0, r) ← takeU8 r
    let (b1, r) ← takeU8 r
    let (b2, r) ← takeU8 r
    let (b3, r) ← takeU8 r
    .ok (.unitDecode32Le b0 b1 b2 b3, r)
  | 0x07 =>
    let (v, r) ← takeU32 r
    .ok (.unitEncode32Le v, r)
  | 0x08 =>
    let (b, r) ← takeTs r
    .ok (.unitWiden40To64 b, r)
  | 0x09 =>
    let (t, r) ← takeU64 r
    .ok (.unitNarrowTo32 t, r)
  | 0x0A =>
    let (x, r) ← takeU32 r
    let (y, r) ← takeU32 r
    .ok (.unitSub32 x y, r)
  | 0x0B =>
    let (t, r) ← takeU64 r
    .ok (.unitAlignDelayedTx t, r)
  | 0x0C =>
    let (a, r) ← takeU32 r
    let (ant, r) ← takeU16 r
    .ok (.unitPredictFinalTx a ant, r)
  | 0x0D =>
    let (pt, r) ← takeU32 r
    let (rr, r) ← takeU32 r
    let (ft, r) ← takeU32 r
    let (prx, r) ← takeU32 r
    let (rtx, r) ← takeU32 r
    let (frx, r) ← takeU32 r
    .ok (.unitRangingIntervals pt rr ft prx rtx frx, r)
  | 0x0E =>
    let (ra, r) ← takeU32 r
    let (rb, r) ← takeU32 r
    let (da, r) ← takeU32 r
    let (db, r) ← takeU32 r
    .ok (.unitTofDeviceUnits ra rb da db, r)
  | 0x0F =>
    let (tof, r) ← takeU64 r
    .ok (.unitTimeOfFlight tof, r)
  | 0x10 =>
    let (tof, r) ← takeU64 r
    .ok (.unitDistance tof, r)
  | _ => .error .unknownUnit

/-! ### One decoder and one encoder for the whole table -/

/-- The instruction at the head of a stream of the given namespace, and what follows it. -/
def decode (P : Params) (p : Port) (bs : List Byte) : Except DecodeError (Instr × List Byte) :=
  match p with
  | .frame => decodeFrame P bs
  | .selector => decodeSelectorByte bs
  | .command => do
    let (c, r) ← decodeCommand bs
    .ok (c.toInstr, r)
  | .event => do
    let (e, r) ← decodeEvent bs
    let i ← e.toInstr
    .ok (i, r)
  | .result => do
    let (r, rest) ← decodeResult bs
    .ok (.result r.degen r.tof r.ra r.rb r.da r.db, rest)
  | .unitFn => decodeUnit bs

/-- The namespace of an instruction (R101). -/
def Instr.port : Instr → Port
  | .framePoll _ | .frameResponse _ _ _ | .frameFinal _ _ _ _ => .frame
  | .iSendPollIssue | .iSendPollAwait | .iAwaitResponseAwait | .iSendFinalIssue | .iSendFinalAwait
  | .iSendFinalRepeatIssue | .iSendFinalRepeatPause | .iSendFinalRepeatAwait | .iIdleIssue
  | .iIdleAwait => .selector
  | .rAwaitPollIssue | .rAwaitPollAwait | .rSendResponseIssue | .rSendResponseAwait
  | .rAwaitFinalAwait | .rAwaitFinalRepeatIssue | .rAwaitFinalRepeatAwait | .rComputeIssue =>
    .selector
  | .cmdTx _ _ _ _ _ | .cmdArmRx _ | .cmdResetRx | .cmdClearStatus | .cmdWait _ => .command
  | .evTxDone _ | .evTxErr | .evRxGood _ _ | .evRxTimeout | .evRxErr | .evDelayDone => .event
  | .result _ _ _ _ _ _ => .result
  | .unitEncodePoll _ | .unitEncodeResponse _ | .unitEncodeFinal _ _ _ _ => .unitFn
  | .unitDecodeFinalTimestamps _ | .unitMatchesType _ _ => .unitFn
  | .unitDecode32Le _ _ _ _ | .unitEncode32Le _ | .unitWiden40To64 _ | .unitNarrowTo32 _ => .unitFn
  | .unitSub32 _ _ | .unitAlignDelayedTx _ | .unitPredictFinalTx _ _ => .unitFn
  | .unitRangingIntervals _ _ _ _ _ _ | .unitTofDeviceUnits _ _ _ _ => .unitFn
  | .unitTimeOfFlight _ | .unitDistance _ => .unitFn

/-- The bytes of an instruction in its namespace (R84-R86, R90-R97, R102). -/
def encode (P : Params) : Instr → List Byte
  | .framePoll seq => pollFrame P seq
  | .frameResponse seq code param => responseFrame P seq code param
  | .frameFinal seq a b c => finalFrame P seq a b c
  | .iSendPollIssue => [0x00#8]
  | .iSendPollAwait => [0x01#8]
  | .iAwaitResponseAwait => [0x05#8]
  | .iSendFinalIssue => [0x08#8]
  | .iSendFinalAwait => [0x09#8]
  | .iSendFinalRepeatIssue => [0x0C#8]
  | .iSendFinalRepeatPause => [0x0E#8]
  | .iSendFinalRepeatAwait => [0x0D#8]
  | .iIdleIssue => [0x10#8]
  | .iIdleAwait => [0x11#8]
  | .rAwaitPollIssue => [0x20#8]
  | .rAwaitPollAwait => [0x21#8]
  | .rSendResponseIssue => [0x24#8]
  | .rSendResponseAwait => [0x25#8]
  | .rAwaitFinalAwait => [0x29#8]
  | .rAwaitFinalRepeatIssue => [0x2C#8]
  | .rAwaitFinalRepeatAwait => [0x2D#8]
  | .rComputeIssue => [0x30#8]
  | .cmdTx mode rxa rxto dly data => encodeCommand (.tx mode rxa rxto dly data)
  | .cmdArmRx rxto => encodeCommand (.armRx rxto)
  | .cmdResetRx => encodeCommand .resetRx
  | .cmdClearStatus => encodeCommand .clearStatus
  | .cmdWait dsel => encodeCommand (.wait dsel)
  | .evTxDone ts => encodeEvent (.txDone ts)
  | .evTxErr => encodeEvent .txErr
  | .evRxGood ts data => encodeEvent (.rxGood ts data)
  | .evRxTimeout => encodeEvent .rxTimeout
  | .evRxErr => encodeEvent .rxErr
  | .evDelayDone => encodeEvent .delayDone
  | .result degen tof ra rb da db => encodeResult ⟨degen, tof, ra, rb, da, db⟩
  | .unitEncodePoll seq => [0x01#8, seq]
  | .unitEncodeResponse seq => [0x02#8, seq]
  | .unitEncodeFinal seq a b c => [0x03#8, seq] ++ le64 a ++ le64 b ++ le64 c
  | .unitDecodeFinalTimestamps f => 0x04#8 :: lenBytes f
  | .unitMatchesType f t => 0x05#8 :: (lenBytes f ++ [t.code])
  | .unitDecode32Le b0 b1 b2 b3 => [0x06#8, b0, b1, b2, b3]
  | .unitEncode32Le v => 0x07#8 :: le32 v
  | .unitWiden40To64 b => 0x08#8 :: b.bytes
  | .unitNarrowTo32 t => 0x09#8 :: le64 t
  | .unitSub32 x y => 0x0A#8 :: (le32 x ++ le32 y)
  | .unitAlignDelayedTx t => 0x0B#8 :: le64 t
  | .unitPredictFinalTx a ant => 0x0C#8 :: (le32 a ++ le16 ant)
  | .unitRangingIntervals pt rr ft prx rtx frx =>
    0x0D#8 :: (le32 pt ++ le32 rr ++ le32 ft ++ le32 prx ++ le32 rtx ++ le32 frx)
  | .unitTofDeviceUnits ra rb da db => 0x0E#8 :: (le32 ra ++ le32 rb ++ le32 da ++ le32 db)
  | .unitTimeOfFlight tof => 0x0F#8 :: le64 tof
  | .unitDistance tof => 0x10#8 :: le64 tof

/-! ### The host's table words (log 9) -/

/-- The `n` bytes of a table word, bit 0 in the first byte. -/
def wordBytes : Nat → Nat → List Byte
  | 0, _ => []
  | n + 1, w => BitVec.ofNat 8 w :: wordBytes n (w / 256)

/-- How many zero bytes follow a table word: as many as the longest instruction it can begin. Frames
and results are at most 28 bytes; an instruction that begins with a word of at most 32 bits has a
fixed part under 32 bytes and a list whose length stands in byte 1 (an event, a unit operand) or in
byte 2 (a command). -/
def tablePad (nbits w : Nat) : Nat :=
  if nbits ≤ 32 then 32 + w / 256 % 256 + w / 65536 % 256 else 32

/-- The first namespace of a list whose decoder accepts the bytes, with the bytes it takes. -/
def firstPort (bs : List Byte) : List Port → Option (Port × Instr × List Byte)
  | [] => none
  | p :: ps =>
    match decode Params.default p bs with
    | .ok (i, rest) => some (p, i, bs.take (bs.length - rest.length))
    | .error _ => firstPort bs ps

/-- The namespaces a bare table word is tried in, by its width (DESIGN CHOICE, safe, log 9): a byte is
a selector before a unit id; a 32-bit word is an event before a command or a result; a longer word is
a frame or a result record. -/
def tablePorts (nbits : Nat) : List Port :=
  if nbits ≤ 8 then [.selector, .unitFn, .event, .command]
  else if nbits ≤ 32 then [.event, .command, .result]
  else [.frame, .result]

/-- The namespace, instruction and bytes of a table word, every bit above `nbits` 0. -/
def routeTableWord (nbits w : Nat) : Option (Port × Instr × List Byte) :=
  firstPort (wordBytes ((nbits + 7) / 8) w ++ List.replicate (tablePad nbits w) 0#8) (tablePorts nbits)

/-- The host's question: the instruction the decoder reads from a table word. -/
def decodeTableWord (nbits w : Nat) : Option Instr :=
  (routeTableWord nbits w).map fun r => r.2.1

end Sys2Proof
end

