-- ==== Sys2Proof/Machine/Operands.lean ====
section
/-! DEFINITION. Timestamp Arithmetic (44_timestamp.md) and the Frame Codec (40_frame_codec.md): how a
step forms its operands from event bytes, registers and frames. All are pure (R120). -/

namespace Sys2Proof.Machine

open Sys2Proof

/-! ### Timestamp Arithmetic -/

/-- `widen_40_to_64` (R231). -/
def widen40To64 (b : TsBytes) : U64 :=
  b.b0.setWidth 64 ||| (b.b1.setWidth 64 <<< 8) ||| (b.b2.setWidth 64 <<< 16) |||
    (b.b3.setWidth 64 <<< 24) ||| (b.b4.setWidth 64 <<< 32)

/-- `narrow_to_32`, `low32` (R14, R232). -/
def narrowTo32 (t : U64) : U32 := t.extractLsb' 0 32

/-- `sub32` (R233): the difference modulo 2^32. -/
def sub32 (x y : U32) : U32 := x - y

/-- `align_delayed_tx` (R235): bits [39:8], bit 0 of the result cleared. -/
def alignDelayedTx (t : U64) : U32 := t.extractLsb' 8 32 &&& 0xFFFFFFFE#32

/-- `predict_final_tx` (R236): not reduced modulo 2^40. -/
def predictFinalTx (a : U32) (ant : U16) : U64 := (a.setWidth 64 <<< 8) + ant.setWidth 64

/-! ### Frame Codec -/

/-- `encode_poll` (R121). -/
def encodePoll (P : Params) (seq : Byte) : List Byte := pollFrame P seq

/-- `encode_response` (R122): the activity bytes are constants of P. -/
def encodeResponse (P : Params) (seq : Byte) : List Byte := responseFrame P seq P.actCode P.actParam

/-- `encode_final` (R123): only the low 32 bits of each timestamp. -/
def encodeFinal (P : Params) (seq : Byte) (pollTx respRx finalTx : U64) : List Byte :=
  finalFrame P seq (narrowTo32 pollTx) (narrowTo32 respRx) (narrowTo32 finalTx)

/-- `POLL_LEN`, `RESP_LEN`, `FINAL_LEN` (R84-R86, R125). -/
def frameLen : FrameType → Nat
  | .poll => 10
  | .response => 13
  | .final => 22

/-- `decode_32_le(f[o..o+4))`, used only where `o + 4 ≤ len(f)` has been checked (R126, R89). -/
def frameU32 (f : List Byte) (o : Nat) : U32 :=
  ofLe32 (f.getD o 0#8) (f.getD (o + 1) 0#8) (f.getD (o + 2) 0#8) (f.getD (o + 3) 0#8)

/-- `decode_final_timestamps` (R124); none is DecodeFail. -/
def decodeFinalTimestamps (f : List Byte) : Option (U32 × U32 × U32) :=
  if f.length < frameLen .final then none
  else some (frameU32 f 10, frameU32 f 14, frameU32 f 18)

/-- `matches_type` (R125): the length under LEN_CHECK first, then the header bytes but byte 2. -/
def matchesType (P : Params) (f : List Byte) (t : FrameType) : Bool :=
  (match P.lenCheck with
    | .exact => f.length == frameLen t
    | .headerOnly => decide (10 ≤ f.length)) &&
  headerMatches (P.template t) f

end Sys2Proof.Machine
end

