-- ==== Sys2Proof/Machine/Ops.lean ====
section
/-! DEFINITION. The operations every meaning is made of: TXBUF, the register primitives of
00_scope.md R16, emission, the failure path (60_exceptions.md R283), the event handshake
(45_driver_interface.md R260) and the two faults of R290 and R291. -/

namespace Sys2Proof.Machine

open Sys2Proof

/-! ### TXBUF (R40, R61) -/

/-- TXBUF holds offsets 0 to 21 (R61). -/
def txbufSize : Nat := 22

/-- The byte at an offset: 0x00 where none is listed (R43). -/
def Memory.read : Memory → Nat → Byte
  | [], _ => 0#8
  | (k, v) :: m, a => if k = a then v else Memory.read m a

/-- One byte written, in canonical form. -/
def Memory.write : Memory → Nat → Byte → Memory
  | [], a, v => if v = 0#8 then [] else [(a, v)]
  | (k, w) :: m, a, v =>
    if a < k then (if v = 0#8 then (k, w) :: m else (a, v) :: (k, w) :: m)
    else if a = k then (if v = 0#8 then m else (a, v) :: m)
    else (k, w) :: Memory.write m a v

/-- Bytes written from an offset up. -/
def Memory.writeFrom : Memory → Nat → List Byte → Memory
  | m, _, [] => m
  | m, a, b :: bs => Memory.writeFrom (Memory.write m a b) (a + 1) bs

/-- Offsets from `lo` up, strictly rising, below the buffer's end, and no byte 0x00. -/
def Memory.wfFrom : Nat → Memory → Bool
  | _, [] => true
  | lo, (k, v) :: m => decide (lo ≤ k) && decide (k < txbufSize) && v != 0#8 && Memory.wfFrom (k + 1) m

/-- The canonical form of TXBUF. -/
def Memory.wf (m : Memory) : Bool := Memory.wfFrom 0 m

/-- `TXBUF[0..n)`; an offset past the end does not exist. -/
def Memory.load (m : Memory) (n : Nat) : Except Fault (List Byte) :=
  if n ≤ txbufSize then .ok ((List.range n).map (Memory.read m)) else .error (.txbufOffset (n - 1))

/-- `TXBUF[0..len) <- bytes`, a whole frame from offset 0 (R61). -/
def Memory.store (m : Memory) (bs : List Byte) : Except Fault Memory :=
  if bs.length ≤ txbufSize then .ok (Memory.writeFrom m 0 bs)
  else .error (.txbufOffset (bs.length - 1))

/-! ### The environment's side of a command and of an event (R251-R258; log 4) -/

/-- What the driver takes on with a command, in emission order (duty H1): a transmission, at once or at
`zext_40(DLY) << 8` (R251), with the receiver armed after it if RXA (R253); an armed receiver (R254); a
disarmed one (R255); cleared status flags (R256); a running timer (R257).

Two points are the model's choice, on commands that only the probe port can give (DESIGN CHOICE, unsafe,
log 27): a TX, ARM_RX or WAIT while one of its kind is outstanding replaces it, which R265 (a) says the block
never does; and a Delayed TX with an odd DLY is scheduled at `DLY << 8` as it stands, which is no multiple of
512 and which R251 and R235 exclude. -/
def Env.accept (c : Command) (e : Env) : Env :=
  match c with
  | .tx mode rxa rxto dly data =>
    let start := if mode = .delayed then some (dly.setWidth 40 <<< 8) else none
    { e with tx := some ⟨data, start, if rxa then some rxto else none⟩ }
  | .armRx rxto => { e with rx := some rxto }
  | .resetRx => { e with rx := none }
  | .clearStatus => { e with flags := 0#32 }
  | .wait dsel => { e with timer := some dsel }

/-- What an awaited event answers: the transmission, whose TX_DONE arms the receiver if it was asked to
(R252, R253); the armed receiver (R254, H3); the wait (R257, H4). The driver's flags become a free value
(log 5). -/
def Env.answer (ev : Event) (flags : BitVec 32) (e : Env) : Env :=
  match ev with
  | .txDone _ =>
    { e with
      tx := none
      rx := (match e.tx with
        | some q => (match q.rxAfter with
          | some r => some r
          | none => e.rx)
        | none => e.rx)
      flags := flags }
  | .txErr => { e with tx := none, flags := flags }
  | .rxGood _ _ | .rxTimeout | .rxErr => { e with rx := none, flags := flags }
  | .delayDone => { e with timer := none, flags := flags }
  | .reserved _ => e

/-- The receive timeout in force: none where no receiver is armed; `some none` for an arm with no timeout (R254). -/
def State.rxTimeoutInForce (s : State) : Option (Option Nat) := s.env.rx.map s.params.rxTimeout

/-- The duration of the wait that is running, if one is (R257). -/
def State.waitInForce (s : State) : Option Nat := s.env.timer.map s.params.delay

/-! ### State codes (R32) and phases (R31) -/

abbrev stISendPoll : BitVec 4 := 0x0#4
abbrev stIAwaitResponse : BitVec 4 := 0x1#4
abbrev stISendFinal : BitVec 4 := 0x2#4
abbrev stISendFinalRepeat : BitVec 4 := 0x3#4
abbrev stIIdle : BitVec 4 := 0x4#4
abbrev stRAwaitPoll : BitVec 4 := 0x8#4
abbrev stRSendResponse : BitVec 4 := 0x9#4
abbrev stRAwaitFinal : BitVec 4 := 0xA#4
abbrev stRAwaitFinalRepeat : BitVec 4 := 0xB#4
abbrev stRCompute : BitVec 4 := 0xC#4
abbrev phIssue : BitVec 2 := 0#2
abbrev phAwait : BitVec 2 := 1#2
abbrev phPause : BitVec 2 := 2#2

/-! ### Register primitives (R16) -/

/-- The state selector `SS` (R90). -/
def State.selector (s : State) : BitVec 6 := s.state ++ s.phase

/-- `goto (S, PH)` (R16). -/
def State.goto (s : State) (st : BitVec 4) (ph : BitVec 2) : State :=
  { s with state := st, phase := ph }

/-- `SEQ <- SEQ +_8 1` (R35). -/
def State.incSeq (s : State) : State := { s with seq := s.seq + 1#8 }

/-- `R.Ti` (R16). -/
def State.readT (s : State) : TReg → U64
  | .t0 => s.t0
  | .t1 => s.t1
  | .t2 => s.t2
  | .t3 => s.t3
  | .t4 => s.t4
  | .t5 => s.t5
  | .t6 => s.t6

/-- `R.Ti <- v`, which sets VALID[i] (R16, R38). -/
def State.writeT (s : State) (r : TReg) (v : U64) : State :=
  let valid := withValid s.valid (tIndex r)
  match r with
  | .t0 => { s with t0 := v, valid := valid }
  | .t1 => { s with t1 := v, valid := valid }
  | .t2 => { s with t2 := v, valid := valid }
  | .t3 => { s with t3 := v, valid := valid }
  | .t4 => { s with t4 := v, valid := valid }
  | .t5 => { s with t5 := v, valid := valid }
  | .t6 => { s with t6 := v, valid := valid }

/-- VALID[i] (R38). -/
def State.validT (s : State) (r : TReg) : Bool := s.valid.getLsbD (tIndex r)

/-- VALID[7] (R38). -/
def State.validE (s : State) : Bool := s.valid.getLsbD embeddedIndex

/-- The write of the embedded triple, which sets VALID[7] (R38, R186). -/
def State.writeEmbedded (s : State) (a b c : U32) : State :=
  { s with e0 := a, e1 := b, e2 := c, valid := withValid s.valid embeddedIndex }

/-- The Initiator's exchange clear (R39). -/
def State.clearInitiator (s : State) : State :=
  { s with t0 := 0#64, t1 := 0#64, t2 := 0#64, valid := clearValidInitiator s.valid }

/-- The Responder's exchange clear (R39). -/
def State.clearResponder (s : State) : State :=
  { s with
    t3 := 0#64, t4 := 0#64, t5 := 0#64, t6 := 0#64, e0 := 0#32, e1 := 0#32, e2 := 0#32
    valid := clearValidResponder s.valid }

/-- `emit C` (R16): the command is appended to the output and the driver takes it on (R73, H1). -/
def State.emit (s : State) (c : Command) : State :=
  { s with trace := s.trace ++ [.cmd c], env := s.env.accept c }

/-- `result(r)` (R16): the record is appended to the output (R264). -/
def State.putResult (s : State) (r : ResultRecord) : State :=
  { s with trace := s.trace ++ [.res r] }

/-- `TXBUF[0..n) <- frame; TXLEN <- n` (R40). -/
def State.loadTx (s : State) (frame : List Byte) : Except Fault State :=
  match Memory.store s.txbuf frame with
  | .ok m => .ok { s with txbuf := m, txlen := BitVec.ofNat 5 frame.length }
  | .error f => .error f

/-- `TXBUF[0..TXLEN)`, what a TX command sends (R251). -/
def State.txFrame (s : State) : Except Fault (List Byte) := Memory.load s.txbuf s.txlen.toNat

/-- Encode a frame into TXBUF, send `TXBUF[0..TXLEN)` in a TX command, and go to AWAIT of a state (R40,
R251). -/
def State.sendFrame (s : State) (mode : TxMode) (rxa : Bool) (rxto : RxTimeout) (dly : U32)
    (frame : List Byte) (st : BitVec 4) : Res :=
  match s.loadTx frame with
  | .error f => .fault f
  | .ok s1 =>
    match s1.txFrame with
    | .error f => .fault f
    | .ok data => .next ((s1.emit (.tx mode rxa rxto dly data)).goto st phAwait)

/-! ### Failures and faults -/

/-- STATUS.LAST_ERR <- code(kind) (R283). -/
def State.setLastErr (s : State) (k : FailKind) : State := { s with status := withLastErr s.status k }

/-- THE FAILURE PATH `fail(kind, (S, ISSUE))` of R283: what taking an exception is on this block. It
saves nothing but LAST_ERR and has no return (R292, R293). -/
def State.fail (s : State) (k : FailKind) (st : BitVec 4) : State :=
  (((s.setLastErr k).emit .clearStatus).emit .resetRx).goto st phIssue

/-- An unexpected event (R289): EV_UNEXP set and nothing else. -/
def State.unexpected (s : State) : State := { s with status := withEvUnexp s.status }

/-- FAULT set and nothing else (R290, R291). -/
def State.setFault (s : State) : State := { s with status := withFault s.status }

/-- Every register of a list has its valid bit (R291). -/
def State.validAll (s : State) (rs : List TReg) : Bool := rs.all s.validT

/-! ### The event handshake (R260) -/

/-- An awaited event is consumed: the environment's debt is answered, its flags are drawn free. -/
def State.answered (s : State) (ev : Event) : State :=
  { s with env := s.env.answer ev (Config.driverFlags s.draws), draws := s.draws + 1 }

/-- The event offered at the port, and the state with it consumed; none where no whole event stands
there. -/
def State.takeEvent (s : State) : Option (Event × State) :=
  match decodeEvent s.events with
  | .ok (ev, rest) => some (ev, { s with events := rest })
  | .error _ => none

/-- An AWAIT or PAUSE action: the offered event is consumed by the state's rule; where none is offered
the block waits as it is (R11, R260; log 3). -/
def awaitEvent (f : Event → State → Res) (s : State) : Res :=
  match s.takeEvent with
  | some (ev, s') => f ev s'
  | none => .next s

/-- The pair is one of the 18 of R33 and STATE[3] is the role (R290). -/
def State.legal (s : State) : Bool :=
  (match decodeSelector s.selector with
    | .ok _ => true
    | .error _ => false) &&
  s.state.getLsbD 3 == s.cfgRole.getLsbD 0

/-- The block is stuck until reset: an illegal pair (R290), or FAULT set by an invalid read (R291). -/
def State.stuck (s : State) : Bool := faultBit s.status || !s.legal

/-- A step of a stuck block (R290; log 14): FAULT set, an offered event consumed without effect. -/
def State.stuckStep (s : State) : State :=
  if s.phase = phAwait ∨ s.phase = phPause then
    match s.takeEvent with
    | some (_, s') => s'.setFault
    | none => s
  else s.setFault

/-! ### Reset as the host applies it (R310, R312, R314; log 20) -/

/-- RESET(role, ant_dly) in any state: every register its reset value, the outputs empty, nothing
outstanding; the other parameters stay. A reset at which they change too (R6, R312) is `State.resetWith`. -/
def State.hardReset (s : State) (role : BitVec 1) (antDly : U16) : State :=
  State.resetWith { s.params with role := role, antDly := antDly }

end Sys2Proof.Machine
end

