-- ==== Sys2Proof/Machine/Commands.lean ====
section
/-! DEFINITION. The five commands (45_driver_interface.md R251-R257) and the result record (R97, R264):
emission on the block's output, and what the driver takes on. -/

namespace Sys2Proof.Machine

open Sys2Proof

/-- CMD_TX (R251); LEN cannot carry a frame over 255 bytes (R91), which is rejected without effect (I19;
log 21). What the driver does with a second command of one kind is log 27. -/
def execCmdTx (mode : TxMode) (rxa : Bool) (rxto : RxTimeout) (dly : U32) (data : List Byte)
    (s : State) : Res :=
  if data.length ≤ maxLen then .next (s.emit (.tx mode rxa rxto dly data))
  else .next s

/-- CMD_ARM_RX (R254). -/
def execCmdArmRx (rxto : RxTimeout) (s : State) : Res := .next (s.emit (.armRx rxto))

/-- CMD_RESET_RX (R255; log 6). -/
def execCmdResetRx (s : State) : Res := .next (s.emit .resetRx)

/-- CMD_CLEAR_STATUS (R256). -/
def execCmdClearStatus (s : State) : Res := .next (s.emit .clearStatus)

/-- CMD_WAIT (R257). -/
def execCmdWait (dsel : DelaySel) (s : State) : Res := .next (s.emit (.wait dsel))

/-- RESULT (R97, R264): the consumer receives the record and sends nothing back. -/
def execResult (degen : Bool) (tof : U64) (ra rb da db : U32) (s : State) : Res :=
  .next (s.putResult ⟨degen, tof, ra, rb, da, db⟩)

end Sys2Proof.Machine
end

