-- ==== Sys2Proof/Machine/Initiator.lean ====
section
/-! DEFINITION. The Initiator state actions (41_initiator.md R150-R159). `on…` is the action of an AWAIT
or PAUSE phase on one event; an event outside the class is unexpected (R289). -/

namespace Sys2Proof.Machine

open Sys2Proof

/-- I_SEND_POLL.ISSUE (R150): clear the exchange, send the Poll with the receiver armed after it. -/
def execISendPollIssue (s : State) : Res :=
  let s := s.clearInitiator
  s.sendFrame .immediate true .resp 0#32 (encodePoll s.params s.seq) stISendPoll

/-- I_SEND_POLL.AWAIT on an event (R151). -/
def onISendPollAwait (ev : Event) (s : State) : Res :=
  match ev with
  | .txDone ts =>
    .next ((((s.answered ev).writeT .t0 (widen40To64 ts)).incSeq).goto stIAwaitResponse phAwait)
  | .txErr => .next ((s.answered ev).fail .transmitFailure stISendPoll)
  | _ => .next s.unexpected

/-- I_SEND_POLL.AWAIT (R151). -/
def execISendPollAwait (s : State) : Res := awaitEvent onISendPollAwait s

/-- I_AWAIT_RESPONSE.AWAIT on an event (R152, R285). -/
def onIAwaitResponseAwait (ev : Event) (s : State) : Res :=
  match ev with
  | .rxTimeout => .next ((s.answered ev).fail .receiveTimeout stIIdle)
  | .rxErr => .next ((s.answered ev).fail .receiveError stIIdle)
  | .rxGood ts f =>
    if matchesType s.params f .response then
      .next (((s.answered ev).writeT .t1 (widen40To64 ts)).goto stISendFinal phIssue)
    else .next ((s.answered ev).fail .frameMismatch stIIdle)
  | _ => .next s.unexpected

/-- I_AWAIT_RESPONSE.AWAIT (R152). -/
def execIAwaitResponseAwait (s : State) : Res := awaitEvent onIAwaitResponseAwait s

/-- I_SEND_FINAL.ISSUE (R153): the predicted final-TX time, the first Final. T0 and T1 are read (R291). -/
def execISendFinalIssue (s : State) : Res :=
  if s.validAll [.t0, .t1] then
    let a := alignDelayedTx (s.t1 + s.params.respToFinalDelay.setWidth 64)
    let s := s.writeT .t2 (predictFinalTx a s.cfgAntDly)
    s.sendFrame s.params.finalTxMode false .noTimeout a (encodeFinal s.params s.seq s.t0 s.t1 s.t2)
      stISendFinal
  else .next s.setFault

/-- I_SEND_FINAL.AWAIT on an event (R154): the actual time overwrites the predicted one. -/
def onISendFinalAwait (ev : Event) (s : State) : Res :=
  match ev with
  | .txDone ts =>
    .next ((((s.answered ev).writeT .t2 (widen40To64 ts)).incSeq).goto stISendFinalRepeat phIssue)
  | .txErr => .next ((s.answered ev).fail .transmitFailure stIIdle)
  | _ => .next s.unexpected

/-- I_SEND_FINAL.AWAIT (R154). -/
def execISendFinalAwait (s : State) : Res := awaitEvent onISendFinalAwait s

/-- I_SEND_FINAL_REPEAT.ISSUE (R155). -/
def execISendFinalRepeatIssue (s : State) : Res :=
  .next ((s.emit (.wait .finalRepeatPause)).goto stISendFinalRepeat phPause)

/-- I_SEND_FINAL_REPEAT.PAUSE on an event (R156): the repeated Final with the actual time. T0, T1, T2 are
read (R291): where one is invalid the step is abandoned (log 15). -/
def onISendFinalRepeatPause (ev : Event) (s : State) : Res :=
  match ev with
  | .delayDone =>
    if s.validAll [.t0, .t1, .t2] then
      (s.answered ev).sendFrame .immediate false .noTimeout 0#32
        (encodeFinal s.params s.seq s.t0 s.t1 s.t2) stISendFinalRepeat
    else .next s.setFault
  | _ => .next s.unexpected

/-- I_SEND_FINAL_REPEAT.PAUSE (R156). -/
def execISendFinalRepeatPause (s : State) : Res := awaitEvent onISendFinalRepeatPause s

/-- I_SEND_FINAL_REPEAT.AWAIT on an event (R157): the timestamp is discarded. -/
def onISendFinalRepeatAwait (ev : Event) (s : State) : Res :=
  match ev with
  | .txDone _ => .next (((s.answered ev).incSeq).goto stIIdle phIssue)
  | .txErr => .next ((s.answered ev).fail .transmitFailure stIIdle)
  | _ => .next s.unexpected

/-- I_SEND_FINAL_REPEAT.AWAIT (R157). -/
def execISendFinalRepeatAwait (s : State) : Res := awaitEvent onISendFinalRepeatAwait s

/-- I_IDLE.ISSUE (R158). -/
def execIIdleIssue (s : State) : Res := .next ((s.emit (.wait .interRanging)).goto stIIdle phAwait)

/-- I_IDLE.AWAIT on an event (R159). -/
def onIIdleAwait (ev : Event) (s : State) : Res :=
  match ev with
  | .delayDone => .next ((s.answered ev).goto stISendPoll phIssue)
  | _ => .next s.unexpected

/-- I_IDLE.AWAIT (R159). -/
def execIIdleAwait (s : State) : Res := awaitEvent onIIdleAwait s

end Sys2Proof.Machine
end

