-- ==== Sys2Proof/Machine/Ranging.lean ====
section
/-! DEFINITION. The Ranging Calculator (43_ranging.md): exact integer arithmetic. -/

namespace Sys2Proof.Machine

open Sys2Proof

/-- The four intervals of R211. -/
structure Intervals where
  ra : U32
  rb : U32
  da : U32
  db : U32
  deriving DecidableEq, Repr

/-- `ranging_intervals` (R211). -/
def rangingIntervals (pt rr ft prx rtx frx : U32) : Intervals where
  ra := sub32 rr pt
  rb := sub32 frx rtx
  da := sub32 ft rr
  db := sub32 rtx prx

/-- The numerator of R212, exact. -/
def rangingNum (v : Intervals) : Int :=
  (v.ra.toNat : Int) * v.rb.toNat - (v.da.toNat : Int) * v.db.toNat

/-- The denominator of R212, exact. -/
def rangingDen (v : Intervals) : Int :=
  (v.ra.toNat : Int) + v.rb.toNat + v.da.toNat + v.db.toNat

/-- The quotient of R213, rounded toward zero; 0 where the denominator is 0 (R214). -/
def tofInt (v : Intervals) : Int :=
  if rangingDen v = 0 then 0 else Int.tdiv (rangingNum v) (rangingDen v)

/-- DEGEN (R214). -/
def tofDegen (v : Intervals) : Bool := decide (rangingDen v = 0)

/-- `tof_device_units` (R213, R214): `TOF_DTU` as an `s64`. -/
def tofDeviceUnits (v : Intervals) : U64 := BitVec.ofInt 64 (tofInt v)

/-- `ranging` (R221): the result record of R97. -/
def ranging (pt rr ft prx rtx frx : U32) : ResultRecord :=
  let v := rangingIntervals pt rr ft prx rtx frx
  ⟨tofDegen v, tofDeviceUnits v, v.ra, v.rb, v.da, v.db⟩

/-- `time_of_flight` (R216), in seconds, from the rounded `TOF_DTU`, under the parameter record. -/
def timeOfFlight (P : Params) (tof : U64) : Rat := (tof.toInt : Rat) * P.dtuSeconds.val

/-- `distance` (R217), in metres. -/
def distance (P : Params) (tof : U64) : Rat := timeOfFlight P tof * P.speedOfLight.val

end Sys2Proof.Machine
end

