-- ==== Sys2Proof/Machine/Responder.lean ====
section
/-! DEFINITION. The Responder state actions (42_responder.md R180-R187). -/

namespace Sys2Proof.Machine

open Sys2Proof

/-- R_AWAIT_POLL.ISSUE (R180): clear the exchange, arm the receiver with no timeout. -/
def execRAwaitPollIssue (s : State) : Res :=
  .next ((s.clearResponder.emit (.armRx .noTimeout)).goto stRAwaitPoll phAwait)

/-- R_AWAIT_POLL.AWAIT on an event (R181). -/
def onRAwaitPollAwait (ev : Event) (s : State) : Res :=
  match ev with
  | .rxTimeout => .next ((s.answered ev).fail .receiveTimeout stRAwaitPoll)
  | .rxErr => .next ((s.answered ev).fail .receiveError stRAwaitPoll)
  | .rxGood ts f =>
    if matchesType s.params f .poll then
      .next (((s.answered ev).writeT .t3 (widen40To64 ts)).goto stRSendResponse phIssue)
    else .next ((s.answered ev).fail .frameMismatch stRAwaitPoll)
  | _ => .next s.unexpected

/-- R_AWAIT_POLL.AWAIT (R181). -/
def execRAwaitPollAwait (s : State) : Res := awaitEvent onRAwaitPollAwait s

/-- R_SEND_RESPONSE.ISSUE (R182). -/
def execRSendResponseIssue (s : State) : Res :=
  s.sendFrame .immediate true .final 0#32 (encodeResponse s.params s.seq) stRSendResponse

/-- R_SEND_RESPONSE.AWAIT on an event (R183). -/
def onRSendResponseAwait (ev : Event) (s : State) : Res :=
  match ev with
  | .txDone ts =>
    .next ((((s.answered ev).writeT .t4 (widen40To64 ts)).incSeq).goto stRAwaitFinal phAwait)
  | .txErr => .next ((s.answered ev).fail .transmitFailure stRAwaitPoll)
  | _ => .next s.unexpected

/-- R_SEND_RESPONSE.AWAIT (R183). -/
def execRSendResponseAwait (s : State) : Res := awaitEvent onRSendResponseAwait s

/-- R_AWAIT_FINAL.AWAIT on an event (R184): SEQ increments whatever the outcome; the first Final's
payload is not read (R191). -/
def onRAwaitFinalAwait (ev : Event) (s : State) : Res :=
  match ev with
  | .rxTimeout => .next (((s.answered ev).incSeq).fail .receiveTimeout stRAwaitPoll)
  | .rxErr => .next (((s.answered ev).incSeq).fail .receiveError stRAwaitPoll)
  | .rxGood ts f =>
    if matchesType s.params f .final then
      .next ((((s.answered ev).incSeq).writeT .t5 (widen40To64 ts)).goto stRAwaitFinalRepeat phIssue)
    else .next (((s.answered ev).incSeq).fail .frameMismatch stRAwaitPoll)
  | _ => .next s.unexpected

/-- R_AWAIT_FINAL.AWAIT (R184). -/
def execRAwaitFinalAwait (s : State) : Res := awaitEvent onRAwaitFinalAwait s

/-- R_AWAIT_FINAL_REPEAT.ISSUE (R185). -/
def execRAwaitFinalRepeatIssue (s : State) : Res :=
  .next ((s.emit (.armRx .noTimeout)).goto stRAwaitFinalRepeat phAwait)

/-- R_AWAIT_FINAL_REPEAT.AWAIT on an event (R186): SEQ increments whatever the outcome; the payload is
decoded after the header matches (R287), and a decode failure is a mismatch (R286). -/
def onRAwaitFinalRepeatAwait (ev : Event) (s : State) : Res :=
  match ev with
  | .rxTimeout => .next (((s.answered ev).incSeq).fail .receiveTimeout stRAwaitPoll)
  | .rxErr => .next (((s.answered ev).incSeq).fail .receiveError stRAwaitPoll)
  | .rxGood ts f =>
    if matchesType s.params f .final then
      match decodeFinalTimestamps f with
      | none => .next (((s.answered ev).incSeq).fail .frameMismatch stRAwaitPoll)
      | some (a, b, c) =>
        .next (((((s.answered ev).incSeq).writeEmbedded a b c).writeT .t6 (widen40To64 ts)).goto
          stRCompute phIssue)
    else .next (((s.answered ev).incSeq).fail .frameMismatch stRAwaitPoll)
  | _ => .next s.unexpected

/-- R_AWAIT_FINAL_REPEAT.AWAIT (R186). -/
def execRAwaitFinalRepeatAwait (s : State) : Res := awaitEvent onRAwaitFinalRepeatAwait s

/-- The register of the local final-RX timestamp, by FINAL_RX_SOURCE (R187). -/
def finalRxReg (src : FinalRxSource) : TReg :=
  match src with
  | .second => .t6
  | .first => .t5

/-- R_COMPUTE.ISSUE (R187): the ranging result. E0..E2, T3, T4 and the final-RX register are read
(R291). -/
def execRComputeIssue (s : State) : Res :=
  let frx := finalRxReg s.params.finalRxSource
  if s.validE && s.validAll [.t3, .t4, frx] then
    .next ((s.putResult (ranging s.e0 s.e1 s.e2 (narrowTo32 s.t3) (narrowTo32 s.t4)
      (narrowTo32 (s.readT frx)))).goto stRAwaitPoll phIssue)
  else .next s.setFault

end Sys2Proof.Machine
end

