-- ==== Sys2Proof/Machine/Events.lean ====
section
/-! DEFINITION. The event step (00_scope.md R11 (2), 45_driver_interface.md R260) and the meanings of
the six events: the environment offers the event and the block consumes it. -/

namespace Sys2Proof.Machine

open Sys2Proof

/-- The event step: a stuck block consumes the event without effect (R290); the AWAIT or PAUSE action
the selector selects consumes it; in an ISSUE phase no event is waited for (R289; log 12). -/
def eventStep (ev : Event) (s : State) : Res :=
  if s.stuck then .next s.setFault
  else
    match decodeSelector s.selector with
    | .ok .iSendPollAwait => onISendPollAwait ev s
    | .ok .iAwaitResponseAwait => onIAwaitResponseAwait ev s
    | .ok .iSendFinalAwait => onISendFinalAwait ev s
    | .ok .iSendFinalRepeatPause => onISendFinalRepeatPause ev s
    | .ok .iSendFinalRepeatAwait => onISendFinalRepeatAwait ev s
    | .ok .iIdleAwait => onIIdleAwait ev s
    | .ok .rAwaitPollAwait => onRAwaitPollAwait ev s
    | .ok .rSendResponseAwait => onRSendResponseAwait ev s
    | .ok .rAwaitFinalAwait => onRAwaitFinalAwait ev s
    | .ok .rAwaitFinalRepeatAwait => onRAwaitFinalRepeatAwait ev s
    | _ => .next s.unexpected

/-- EV_TX_DONE (R252). -/
def execEvTxDone (ts : TsBytes) (s : State) : Res := eventStep (.txDone ts) s

/-- EV_TX_ERR (R252). -/
def execEvTxErr (s : State) : Res := eventStep .txErr s

/-- EV_RX_GOOD (R258); a frame over 255 bytes cannot be carried, and is rejected without effect (I19;
log 21). -/
def execEvRxGood (ts : TsBytes) (data : List Byte) (s : State) : Res :=
  if data.length ≤ maxLen then eventStep (.rxGood ts data) s else .next s

/-- EV_RX_TIMEOUT (R258). -/
def execEvRxTimeout (s : State) : Res := eventStep .rxTimeout s

/-- EV_RX_ERR (R258). -/
def execEvRxErr (s : State) : Res := eventStep .rxErr s

/-- EV_DELAY_DONE (R257). -/
def execEvDelayDone (s : State) : Res := eventStep .delayDone s

end Sys2Proof.Machine
end

