-- ==== Sys2Proof/Machine/Frames.lean ====
section
/-! DEFINITION. The wire frames (30_encoding.md R80-R89): a frame that reaches the node is delivered to
the block as an RX_GOOD event (60_exceptions.md R299, R258), its RX timestamp the environment's free
draw (45_driver_interface.md R263 (b); log 11). -/

namespace Sys2Proof.Machine

open Sys2Proof

/-- The frame is received at a free 40-bit time. -/
def receiveFrame (f : List Byte) (s : State) : Res :=
  eventStep (.rxGood (TsBytes.ofTimestamp (Config.rxTimestamp s.draws)) f)
    { s with draws := s.draws + 1 }

/-- Any bytes that reach the node as a frame, those of no type too: such a frame is the mismatch of the state
that receives it, not a fault (R99, R285). Over 255 bytes it cannot be carried, and is rejected without effect
(I19; log 21). -/
def receiveBytes (f : List Byte) (s : State) : Res :=
  if f.length ≤ maxLen then receiveFrame f s else .next s

/-- FRAME_POLL (R84). -/
def execFramePoll (seq : Byte) (s : State) : Res := receiveFrame (pollFrame s.params seq) s

/-- FRAME_RESPONSE (R85). -/
def execFrameResponse (seq actCode : Byte) (actParam : U16) (s : State) : Res :=
  receiveFrame (responseFrame s.params seq actCode actParam) s

/-- FRAME_FINAL (R86). -/
def execFrameFinal (seq : Byte) (pollTx respRx finalTx : U32) (s : State) : Res :=
  receiveFrame (finalFrame s.params seq pollTx respRx finalTx) s

end Sys2Proof.Machine
end

