-- ==== Sys2Proof/Machine/Units.lean ====
section
/-! DEFINITION. The 16 unit functions (30_encoding.md R102). They write no state of the block; their
output is shown in the model's own `unitOut` (log 8). -/

namespace Sys2Proof.Machine

open Sys2Proof

/-- The output of a combinational unit. -/
def State.setUnitOut (s : State) (o : UnitOut) : State := { s with unitOut := o }

/-- UNIT_encode_poll (R121). -/
def execUnitEncodePoll (seq : Byte) (s : State) : Res :=
  .next (s.setUnitOut (.bytes (encodePoll s.params seq)))

/-- UNIT_encode_response (R122). -/
def execUnitEncodeResponse (seq : Byte) (s : State) : Res :=
  .next (s.setUnitOut (.bytes (encodeResponse s.params seq)))

/-- UNIT_encode_final (R123). -/
def execUnitEncodeFinal (seq : Byte) (pollTx respRx finalTx : U64) (s : State) : Res :=
  .next (s.setUnitOut (.bytes (encodeFinal s.params seq pollTx respRx finalTx)))

/-- UNIT_decode_final_timestamps (R124). -/
def execUnitDecodeFinalTimestamps (f : List Byte) (s : State) : Res :=
  .next (s.setUnitOut (match decodeFinalTimestamps f with
    | none => .decodeFail
    | some (a, b, c) => .timestamps a b c))

/-- UNIT_matches_type (R125). -/
def execUnitMatchesType (f : List Byte) (t : FrameType) (s : State) : Res :=
  .next (s.setUnitOut (.flag (matchesType s.params f t)))

/-- UNIT_decode_32_le (R126). -/
def execUnitDecode32Le (b0 b1 b2 b3 : Byte) (s : State) : Res :=
  .next (s.setUnitOut (.word32 (ofLe32 b0 b1 b2 b3)))

/-- UNIT_encode_32_le (R127). -/
def execUnitEncode32Le (v : U32) (s : State) : Res := .next (s.setUnitOut (.bytes (le32 v)))

/-- UNIT_widen_40_to_64 (R231). -/
def execUnitWiden40To64 (b : TsBytes) (s : State) : Res :=
  .next (s.setUnitOut (.word64 (widen40To64 b)))

/-- UNIT_narrow_to_32 (R232). -/
def execUnitNarrowTo32 (t : U64) (s : State) : Res := .next (s.setUnitOut (.word32 (narrowTo32 t)))

/-- UNIT_sub32 (R233). -/
def execUnitSub32 (x y : U32) (s : State) : Res := .next (s.setUnitOut (.word32 (sub32 x y)))

/-- UNIT_align_delayed_tx (R235). -/
def execUnitAlignDelayedTx (t : U64) (s : State) : Res :=
  .next (s.setUnitOut (.word32 (alignDelayedTx t)))

/-- UNIT_predict_final_tx (R236). -/
def execUnitPredictFinalTx (a : U32) (ant : U16) (s : State) : Res :=
  .next (s.setUnitOut (.word64 (predictFinalTx a ant)))

/-- UNIT_ranging_intervals (R211). -/
def execUnitRangingIntervals (pt rr ft prx rtx frx : U32) (s : State) : Res :=
  let v := rangingIntervals pt rr ft prx rtx frx
  .next (s.setUnitOut (.intervals v.ra v.rb v.da v.db))

/-- UNIT_tof_device_units (R213, R214). -/
def execUnitTofDeviceUnits (ra rb da db : U32) (s : State) : Res :=
  .next (s.setUnitOut (.tof (tofDeviceUnits ⟨ra, rb, da, db⟩) (tofDegen ⟨ra, rb, da, db⟩)))

/-- UNIT_time_of_flight (R216). -/
def execUnitTimeOfFlight (tof : U64) (s : State) : Res :=
  .next (s.setUnitOut (.rational (timeOfFlight s.params tof)))

/-- UNIT_distance (R217). -/
def execUnitDistance (tof : U64) (s : State) : Res :=
  .next (s.setUnitOut (.rational (distance s.params tof)))

end Sys2Proof.Machine
end

