-- ==== Sys2Proof/Machine/Dispatch.lean ====
section
/-! DEFINITION. The dispatch of every instruction to its meaning. -/

namespace Sys2Proof.Machine

open Sys2Proof

def exec (i : Instr) (s : State) : Host.Outcome State Fault Refusal :=
  match i with
  | .framePoll seq => Sys2Proof.Machine.execFramePoll seq s
  | .frameResponse seq actCode actParam => Sys2Proof.Machine.execFrameResponse seq actCode actParam s
  | .frameFinal seq pollTx respRx finalTx => Sys2Proof.Machine.execFrameFinal seq pollTx respRx finalTx s
  | .iSendPollIssue => Sys2Proof.Machine.execISendPollIssue s
  | .iSendPollAwait => Sys2Proof.Machine.execISendPollAwait s
  | .iAwaitResponseAwait => Sys2Proof.Machine.execIAwaitResponseAwait s
  | .iSendFinalIssue => Sys2Proof.Machine.execISendFinalIssue s
  | .iSendFinalAwait => Sys2Proof.Machine.execISendFinalAwait s
  | .iSendFinalRepeatIssue => Sys2Proof.Machine.execISendFinalRepeatIssue s
  | .iSendFinalRepeatPause => Sys2Proof.Machine.execISendFinalRepeatPause s
  | .iSendFinalRepeatAwait => Sys2Proof.Machine.execISendFinalRepeatAwait s
  | .iIdleIssue => Sys2Proof.Machine.execIIdleIssue s
  | .iIdleAwait => Sys2Proof.Machine.execIIdleAwait s
  | .rAwaitPollIssue => Sys2Proof.Machine.execRAwaitPollIssue s
  | .rAwaitPollAwait => Sys2Proof.Machine.execRAwaitPollAwait s
  | .rSendResponseIssue => Sys2Proof.Machine.execRSendResponseIssue s
  | .rSendResponseAwait => Sys2Proof.Machine.execRSendResponseAwait s
  | .rAwaitFinalAwait => Sys2Proof.Machine.execRAwaitFinalAwait s
  | .rAwaitFinalRepeatIssue => Sys2Proof.Machine.execRAwaitFinalRepeatIssue s
  | .rAwaitFinalRepeatAwait => Sys2Proof.Machine.execRAwaitFinalRepeatAwait s
  | .rComputeIssue => Sys2Proof.Machine.execRComputeIssue s
  | .cmdTx mode rxa rxto dly data => Sys2Proof.Machine.execCmdTx mode rxa rxto dly data s
  | .cmdArmRx rxto => Sys2Proof.Machine.execCmdArmRx rxto s
  | .cmdResetRx => Sys2Proof.Machine.execCmdResetRx s
  | .cmdClearStatus => Sys2Proof.Machine.execCmdClearStatus s
  | .cmdWait dsel => Sys2Proof.Machine.execCmdWait dsel s
  | .evTxDone ts => Sys2Proof.Machine.execEvTxDone ts s
  | .evTxErr => Sys2Proof.Machine.execEvTxErr s
  | .evRxGood ts data => Sys2Proof.Machine.execEvRxGood ts data s
  | .evRxTimeout => Sys2Proof.Machine.execEvRxTimeout s
  | .evRxErr => Sys2Proof.Machine.execEvRxErr s
  | .evDelayDone => Sys2Proof.Machine.execEvDelayDone s
  | .result degen tof ra rb da db => Sys2Proof.Machine.execResult degen tof ra rb da db s
  | .unitEncodePoll seq => Sys2Proof.Machine.execUnitEncodePoll seq s
  | .unitEncodeResponse seq => Sys2Proof.Machine.execUnitEncodeResponse seq s
  | .unitEncodeFinal seq pollTx respRx finalTx => Sys2Proof.Machine.execUnitEncodeFinal seq pollTx respRx finalTx s
  | .unitDecodeFinalTimestamps f => Sys2Proof.Machine.execUnitDecodeFinalTimestamps f s
  | .unitMatchesType f t => Sys2Proof.Machine.execUnitMatchesType f t s
  | .unitDecode32Le b0 b1 b2 b3 => Sys2Proof.Machine.execUnitDecode32Le b0 b1 b2 b3 s
  | .unitEncode32Le v => Sys2Proof.Machine.execUnitEncode32Le v s
  | .unitWiden40To64 b => Sys2Proof.Machine.execUnitWiden40To64 b s
  | .unitNarrowTo32 t => Sys2Proof.Machine.execUnitNarrowTo32 t s
  | .unitSub32 x y => Sys2Proof.Machine.execUnitSub32 x y s
  | .unitAlignDelayedTx t => Sys2Proof.Machine.execUnitAlignDelayedTx t s
  | .unitPredictFinalTx a ant => Sys2Proof.Machine.execUnitPredictFinalTx a ant s
  | .unitRangingIntervals pt rr ft prx rtx frx => Sys2Proof.Machine.execUnitRangingIntervals pt rr ft prx rtx frx s
  | .unitTofDeviceUnits ra rb da db => Sys2Proof.Machine.execUnitTofDeviceUnits ra rb da db s
  | .unitTimeOfFlight tof => Sys2Proof.Machine.execUnitTimeOfFlight tof s
  | .unitDistance tof => Sys2Proof.Machine.execUnitDistance tof s

end Sys2Proof.Machine
end

