-- ==== Sys2Proof/Machine/Fetch.lean ====
section
/-! DEFINITION. What a step runs: the state action the selector selects (30_encoding.md R90), or a word
on the probe port (log 7); and where the host's table words are placed (log 9, 23). -/

namespace Sys2Proof.Machine

open Sys2Proof

/-- What a step finds to do. -/
inductive Fetched where
  /-- an instruction, and the state it runs in -/
  | run (i : Instr) (s : State)
  /-- no instruction of the table: what the step answers -/
  | answer (r : Res)

/-- The instruction the selector selects, where the block is not stuck (R33, R90). -/
def State.selected (s : State) : Option Instr :=
  if s.stuck then none
  else
    match decodeSelector s.selector with
    | .ok i => some i
    | .error _ => none

/-- The block's own fetch: the selector selects the action (R90), and a stuck block has none (R290). -/
def fetchSelected (s : State) : Fetched :=
  match s.selected with
  | some i => .run i s
  | none => .answer (.next s.stuckStep)

/-- A word on the probe port, taken off it (log 7), and what the spec gives a word that is no row of the table:
* a selector (its low six bits, the mask of R101) puts the block at that pair, and the block steps there: at an
  illegal pair, or one of the other role, that is the step of R290;
* a frame of no type is received like any other (R99);
* an event of a reserved CODE is an unexpected event (R98 (b), R289);
* any other word that encodes nothing is rejected without effect (I15; log 26). -/
def fetchProbe (p : Probe) (s : State) : Fetched :=
  match p.port with
  | .selector =>
    match p.bytes with
    | b :: _ => fetchSelected (s.goto (b.extractLsb' 2 4) (b.extractLsb' 0 2))
    | [] => .answer (.next s)
  | .frame =>
    match decodeFrame s.params p.bytes with
    | .ok (i, []) => .run i s
    | _ => .answer (receiveBytes p.bytes s)
  | .event =>
    match decodeEvent p.bytes with
    | .ok (ev, _) =>
      match ev.toInstr with
      | .ok i => .run i s
      | .error _ => .answer (eventStep ev s)
    | .error _ => .answer (.next s)
  | .command | .result | .unitFn =>
    match decode s.params p.port p.bytes with
    | .ok (i, _) => .run i s
    | .error _ => .answer (.next s)

/-- The fetch: the probe port's word where one stands there, else the block's own. -/
def fetch (s : State) : Fetched :=
  match s.probe with
  | some p => fetchProbe p { s with probe := none }
  | none => fetchSelected s

/-- The block placed at a selector, of the role STATE[3] gives, not stuck (log 23). -/
def State.atSelector (s : State) (ss : BitVec 6) : State :=
  { s with
    state := ss.extractLsb' 2 4, phase := ss.extractLsb' 0 2, cfgRole := ss.extractLsb' 5 1
    status := withoutFault s.status, probe := none }

/-- The block in a phase that consumes events: as it is where it is in one, else waiting for the
completion of its role's first command (log 23). -/
def State.atAwait (s : State) : State :=
  if s.legal ∧ (s.phase = phAwait ∨ s.phase = phPause) then s.atSelector s.selector
  else if s.cfgRole = 0#1 then s.atSelector 0x01#6
  else s.atSelector 0x21#6

/-- An instruction's bytes placed where the next step fetches them (log 23): a selector in STATE and
PHASE; an event, or a frame that arrives as one, on the probe port of a block in a phase that consumes
events (R260 (a)); anything else on the probe port. -/
def State.place (s : State) (p : Port) (bs : List Byte) : State :=
  match p with
  | .selector => s.atSelector ((bs.headD 0#8).extractLsb' 0 6)
  | .event | .frame => { s.atAwait with probe := some ⟨p, bs⟩ }
  | .command | .result | .unitFn => { s with probe := some ⟨p, bs⟩ }

/-- A table word placed where the next step fetches it; a word no namespace reads goes to the probe port,
where it is rejected. -/
def State.placeTableWord (s : State) (nbits w : Nat) : State :=
  match routeTableWord nbits w with
  | some (p, _, bs) => s.place p bs
  | none => { s with probe := some ⟨.unitFn, wordBytes ((nbits + 7) / 8) w⟩ }

end Sys2Proof.Machine
end

