-- ==== Sys2Proof/Machine/Step.lean ====
section
/-! DEFINITION. One step of the machine (00_scope.md R11). -/

namespace Sys2Proof.Machine

open Sys2Proof

/-- One step: the fetched instruction runs, or the fetch has answered (a stuck block, R290; an input that is no
row of the table, R98, R99). An event step whose event has not come leaves the state as it is (R11, R260;
log 3). -/
def step (s : State) : Host.Outcome State Fault Refusal :=
  match fetch s with
  | .run i s' => exec i s'
  | .answer r => r

/-- The host's table word stored where `step` fetches its next instruction (log 9, 18, 23). -/
def State.withFetchWord (s : State) (nbits w : Nat) : State := s.placeTableWord nbits w

end Sys2Proof.Machine
end

