-- ==== Sys2Proof/Machine/Registers.lean ====
section
/-! DEFINITION. The register numbers of 10_state.md R43: spec-internal names, no bus (D33). -/

namespace Sys2Proof.Machine

open Sys2Proof

/-- Access of R43: RO is written only by the block's own rules and by reset, CFG only by reset. -/
inductive Access where
  | ro | cfg
  deriving DecidableEq, Repr

/-- A register as R43 lists it. -/
structure RegView where
  name : String
  width : Nat
  access : Access
  value : Nat
  deriving DecidableEq, Repr

/-- TXBUF as one number of 176 bits, offset 0 the least significant byte. R43 gives the register as 22 bytes and R66
no view of it at another width: the order is the model's (DESIGN CHOICE, safe, log 29). -/
def txbufValue (m : Memory) : Nat :=
  (List.range txbufSize).foldr (fun a acc => (Memory.read m a).toNat + 256 * acc) 0

/-- The register of a number, with its value; none for a number R43 does not list. -/
def readReg (s : State) (n : Nat) : Option RegView :=
  match n with
  | 0x00 => some ⟨"STATE", 4, .ro, s.state.toNat⟩
  | 0x01 => some ⟨"PHASE", 2, .ro, s.phase.toNat⟩
  | 0x02 => some ⟨"SEQ", 8, .ro, s.seq.toNat⟩
  | 0x03 => some ⟨"CFG_ROLE", 1, .cfg, s.cfgRole.toNat⟩
  | 0x04 => some ⟨"CFG_ANT_DLY", 16, .cfg, s.cfgAntDly.toNat⟩
  | 0x05 => some ⟨"STATUS", 8, .ro, s.status.toNat⟩
  | 0x10 => some ⟨"T0", 64, .ro, s.t0.toNat⟩
  | 0x11 => some ⟨"T1", 64, .ro, s.t1.toNat⟩
  | 0x12 => some ⟨"T2", 64, .ro, s.t2.toNat⟩
  | 0x13 => some ⟨"T3", 64, .ro, s.t3.toNat⟩
  | 0x14 => some ⟨"T4", 64, .ro, s.t4.toNat⟩
  | 0x15 => some ⟨"T5", 64, .ro, s.t5.toNat⟩
  | 0x16 => some ⟨"T6", 64, .ro, s.t6.toNat⟩
  | 0x18 => some ⟨"E0", 32, .ro, s.e0.toNat⟩
  | 0x19 => some ⟨"E1", 32, .ro, s.e1.toNat⟩
  | 0x1A => some ⟨"E2", 32, .ro, s.e2.toNat⟩
  | 0x1F => some ⟨"VALID", 8, .ro, s.valid.toNat⟩
  | 0x20 => some ⟨"TXBUF", 176, .ro, txbufValue s.txbuf⟩
  | 0x21 => some ⟨"TXLEN", 5, .ro, s.txlen.toNat⟩
  | _ => none

end Sys2Proof.Machine
end

