-- ==== Sys2Proof/Machine/Script.lean ====
section
/-! DEFINITION. Event scripts and traces (30_encoding.md R103-R105): the lines as data, what a line does
to the machine, the run of a script, and the text of script lines and trace lines (log 24). -/

namespace Sys2Proof.Machine

open Sys2Proof

/-- The `data=` argument of an RX_GOOD line: bytes or a frame macro (R104). R104 gives the arguments of `FINAL` no
width: they are the u64 operands of `encode_final` (R123), of which the low 32 bits are sent (DEDUCED, safe,
log 24). -/
inductive FrameArg where
  | bytes (l : List Byte)
  | poll (seq : Byte)
  | resp (seq : Byte)
  | final (seq : Byte) (a b c : U64)
  deriving DecidableEq, Repr

/-- The bytes a frame macro expands to, under the parameter record in force (R104). -/
def FrameArg.expand (P : Params) : FrameArg → List Byte
  | .bytes l => l
  | .poll seq => encodePoll P seq
  | .resp seq => encodeResponse P seq
  | .final seq a b c => encodeFinal P seq a b c

/-- A line of an event script (R103). -/
inductive ScriptLine where
  | reset (role : BitVec 1) (antDly : U16)
  | txDone (ts : BitVec 40)
  | txErr
  | rxGood (ts : BitVec 40) (data : FrameArg)
  | rxTimeout
  | rxErr
  | delayDone
  deriving DecidableEq, Repr

/-- The event of an EV line. None for RESET, and none for an RX_GOOD of more than 255 bytes: no event word carries
it, so the line offers nothing (I19; log 21). -/
def ScriptLine.event (P : Params) : ScriptLine → Option Event
  | .reset _ _ => none
  | .txDone ts => some (.txDone (TsBytes.ofTimestamp ts))
  | .txErr => some .txErr
  | .rxGood ts data =>
    let f := data.expand P
    if f.length ≤ maxLen then some (.rxGood (TsBytes.ofTimestamp ts) f) else none
  | .rxTimeout => some .rxTimeout
  | .rxErr => some .rxErr
  | .delayDone => some .delayDone

/-- What a line does before any step runs: RESET resets; EV adds its event to those the environment will
offer, which the block consumes one a step once it waits (R103). -/
def ScriptLine.place (l : ScriptLine) (s : State) : State :=
  match l with
  | .reset role antDly => s.hardReset role antDly
  | l =>
    match l.event s.params with
    | some ev => { s with events := s.events ++ encodeEvent ev }
    | none => s

/-- A whole script placed at once; a RESET discards what stands on the port before it. -/
def placeScript (ls : List ScriptLine) (s : State) : State :=
  ls.foldl (fun s l => l.place s) s

/-! ### The run of a script, line by line (R103) -/

/-- One step or run after another; a stop stays. -/
def andThen (r : Res) (f : State → Res) : Res :=
  match r with
  | .next s => f s
  | .fault e => .fault e
  | .refused e => .refused e

/-- The block is in a phase in which the environment may offer an event (R260 (a)). -/
def State.waits (s : State) : Bool := s.phase == phAwait || s.phase == phPause

/-- At most `n` internal steps, until the block waits. -/
def internalSteps : Nat → State → Res
  | 0, s => .next s
  | n + 1, s => if s.waits then .next s else andThen (step s) (internalSteps n)

/-- Every internal step the block can take: two at most (R324), and the step of a stuck block changes nothing
when it is taken again (R290). -/
def settle (s : State) : Res := internalSteps 2 s

/-- One line run: RESET resets; an EV line offers its one event word once the block waits, and the block consumes
it. An event is not offered to a block that does not wait, or where no word carries it (I19). -/
def ScriptLine.run (l : ScriptLine) (s : State) : Res :=
  match l with
  | .reset role antDly => .next (s.hardReset role antDly)
  | l =>
    andThen (settle s) fun s =>
      match l.event s.params with
      | some ev => if s.waits then step { s with events := s.events ++ encodeEvent ev } else .next s
      | none => .next s

/-- A whole script run, with the internal steps after its last line (R103). -/
def runScript : List ScriptLine → State → Res
  | [], s => settle s
  | l :: ls, s => andThen (l.run s) (runScript ls)

/-! ### Text -/

/-- An upper-case hexadecimal digit. -/
def hexDigit (n : Nat) : String :=
  String.singleton (['0', '1', '2', '3', '4', '5', '6', '7', '8', '9', 'A', 'B', 'C', 'D', 'E',
    'F'].getD n '0')

/-- `n` hexadecimal digits of a value. -/
def hexText : Nat → Nat → String
  | 0, _ => ""
  | n + 1, v => hexText n (v / 16) ++ hexDigit (v % 16)

/-- Bytes in wire order, separated by spaces (R105). -/
def bytesText (l : List Byte) : String := " ".intercalate (l.map fun b => hexText 2 b.toNat)

/-- A bit as 0 or 1. -/
def bitText (b : Bool) : String := if b then "1" else "0"

/-- `rxto=` of R105. -/
def rxtoText : RxTimeout → String
  | .noTimeout => "NONE"
  | .resp => "RESP"
  | .final => "FINAL"

/-- A command line of the trace (R105). -/
def commandText : Command → String
  | .tx mode rxa rxto dly data =>
    "CMD TX mode=" ++ (match mode with | .immediate => "IMM" | .delayed => "DLY") ++
      " rxa=" ++ bitText rxa ++ " rxto=" ++ rxtoText rxto ++ " dly=" ++ hexText 8 dly.toNat ++
      " data=" ++ bytesText data
  | .armRx rxto => "CMD ARM_RX rxto=" ++ rxtoText rxto
  | .resetRx => "CMD RESET_RX"
  | .clearStatus => "CMD CLEAR_STATUS"
  | .wait dsel => "CMD WAIT " ++ (match dsel with | .interRanging => "INTER" | .finalRepeatPause => "PAUSE")

/-- A result line of the trace (R105). -/
def resultText (r : ResultRecord) : String :=
  "RESULT tof=" ++ toString r.tof.toInt ++ " degen=" ++ bitText r.degen ++ " Ra=" ++
    toString r.ra.toNat ++ " Rb=" ++ toString r.rb.toNat ++ " Da=" ++ toString r.da.toNat ++
    " Db=" ++ toString r.db.toNat

/-- The trace of a run, one line an output, in emission order (R73, R105). -/
def traceText (s : State) : List String :=
  s.trace.map fun o =>
    match o with
    | .cmd c => commandText c
    | .res r => resultText r

/-- A macro argument: 8 digits, or 16 where it needs more. -/
def argText (v : U64) : String := "0x" ++ hexText (if v.toNat < 2 ^ 32 then 8 else 16) v.toNat

/-- The `data=` argument as written (R103, R104). -/
def frameArgText : FrameArg → String
  | .bytes l => bytesText l
  | .poll seq => "POLL(0x" ++ hexText 2 seq.toNat ++ ")"
  | .resp seq => "RESP(0x" ++ hexText 2 seq.toNat ++ ")"
  | .final seq a b c =>
    "FINAL(0x" ++ hexText 2 seq.toNat ++ ", " ++ argText a ++ ", " ++ argText b ++ ", " ++
      argText c ++ ")"

/-- A script line as written (R103). -/
def scriptText : ScriptLine → String
  | .reset role antDly =>
    "RESET role=" ++ (if role = 0#1 then "INITIATOR" else "RESPONDER") ++ " ant_dly=" ++
      hexText 4 antDly.toNat
  | .txDone ts => "EV TX_DONE ts=" ++ hexText 10 ts.toNat
  | .txErr => "EV TX_ERR"
  | .rxGood ts data => "EV RX_GOOD ts=" ++ hexText 10 ts.toNat ++ " data=" ++ frameArgText data
  | .rxTimeout => "EV RX_TIMEOUT"
  | .rxErr => "EV RX_ERR"
  | .delayDone => "EV DELAY_DONE"

end Sys2Proof.Machine
end

