-- ==== Sys2Proof/Safety.lean ====
section
/-! DEFINITION. The terms the claims are stated in: the tables of R33 and R46, the host duties of R262,
and the invariants of the machine. -/

namespace Sys2Proof.Machine

open Sys2Proof

/-! ### The tables of the spec -/

/-- The class of an event (R95); a reserved CODE has none. -/
def eventClass : Event → Option EventClass
  | .txDone _ | .txErr => some .tx
  | .rxGood _ _ | .rxTimeout | .rxErr => some .rx
  | .delayDone => some .dly
  | .reserved _ => none

/-- The "waits for" column of R33 by selector: the class of an AWAIT or PAUSE pair; none for an ISSUE
pair and for an illegal one. -/
def waitsFor (ss : BitVec 6) : Option EventClass :=
  match ss.toNat with
  | 0x01 | 0x09 | 0x0D | 0x25 => some .tx
  | 0x05 | 0x21 | 0x29 | 0x2D => some .rx
  | 0x0E | 0x11 => some .dly
  | _ => none

/-- The eight legal ISSUE pairs of R33. -/
def isIssue (ss : BitVec 6) : Bool :=
  match ss.toNat with
  | 0x00 | 0x08 | 0x0C | 0x10 | 0x20 | 0x24 | 0x2C | 0x30 => true
  | _ => false

/-- The restart target of a failure in an AWAIT pair (R281, R284). -/
def restartState (ss : BitVec 6) : BitVec 4 :=
  match ss.toNat with
  | 0x01 => stISendPoll
  | 0x05 | 0x09 | 0x0D => stIIdle
  | _ => stRAwaitPoll

/-- Duties H2-H5 of R262: the environment offers an event only where it owes it. The block does not
check them (R263); a claim may take them as a premise. -/
def Env.owes (e : Env) : Event → Bool
  | .txDone _ | .txErr => e.tx.isSome
  | .rxGood _ _ | .rxErr => e.rx.isSome
  | .rxTimeout => e.rx == some .resp || e.rx == some .final
  | .delayDone => e.timer.isSome
  | .reserved _ => false

/-! ### How a claim says what an instruction does and leaves -/

/-- The state less what is the environment's or the step's input: its ledger, the count of free values,
the event port. Two states with one `arch` agree on every register, TXBUF, the outputs and P. -/
def State.arch (s : State) : State := { s with env := Env.idle, draws := 0, events := [] }

/-- The event at the head of the event port, and the bytes after it (R96, R100). -/
def Offered (s : State) (ev : Event) (rest : List Byte) : Prop := decodeEvent s.events = .ok (ev, rest)

/-- The instruction answers a next state with this `arch` and these bytes left on the event port. -/
def Answers (i : Instr) (s : State) (rest : List Byte) (a : State) : Prop :=
  ∃ t, exec i s = .next t ∧ t.events = rest ∧ t.arch = a

/-- TXBUF after a frame is written from offset 0: the frame's bytes, every other byte as it was (R40). -/
def FrameStored (s t : State) (frame : List Byte) : Prop :=
  ∀ a, Memory.read t.txbuf a = if a < frame.length then frame.getD a 0#8 else Memory.read s.txbuf a

/-- The instruction answers a next state in which a frame was written to TXBUF and TXLEN, sent with one
TX command, and the block waits in AWAIT of a state; `a` is the `arch` apart from these. -/
def Sends (i : Instr) (s : State) (rest : List Byte) (a : State) (mode : TxMode) (rxa : Bool)
    (rxto : RxTimeout) (dly : U32) (frame : List Byte) (len : BitVec 5) (st : BitVec 4) : Prop :=
  ∃ t, exec i s = .next t ∧ t.events = rest ∧ FrameStored s t frame ∧
    t.arch = { a with
      txbuf := t.txbuf, txlen := len
      trace := a.trace ++ [.cmd (.tx mode rxa rxto dly frame)]
      state := st, phase := 1#2 }

/-- The `arch` after the failure path of R283 with a LAST_ERR code and a restart state. -/
def failedArch (s : State) (code : BitVec 8) (st : BitVec 4) : State :=
  { s.arch with
    status := (s.status &&& 0xF8#8) ||| code
    trace := s.trace ++ [.cmd .clearStatus, .cmd .resetRx]
    state := st, phase := 0#2 }

/-- The type of frame an RX pair accepts (R88). -/
def expectedType (ss : BitVec 6) : FrameType :=
  match ss.toNat with
  | 0x05 => .response
  | 0x21 => .poll
  | _ => .final

/-- The state with SEQ counted where the pair counts every event (R184, R186). -/
def countedAt (s : State) : State :=
  if s.selector = 0x29#6 ∨ s.selector = 0x2D#6 then { s with seq := s.seq + 1#8 } else s

/-! ### Invariants -/

/-- The block is at a legal pair of its role with FAULT clear, and nothing is on the probe port (R290). -/
def Running (s : State) : Prop := s.stuck = false ∧ s.probe = none

/-- The bits of VALID that are set at a selector on every run from reset (R49). -/
def validAt (ss : BitVec 6) : BitVec 8 :=
  match ss.toNat with
  | 0x05 => 0x01#8
  | 0x08 => 0x03#8
  | 0x09 | 0x0C | 0x0E | 0x0D => 0x07#8
  | 0x24 | 0x25 => 0x08#8
  | 0x29 => 0x18#8
  | 0x2C | 0x2D => 0x38#8
  | 0x30 => 0xF8#8
  | _ => 0x00#8

/-- R49: whatever a rule is about to read has its valid bit. -/
def Captured (s : State) : Prop := s.valid &&& validAt s.selector = validAt s.selector

/-- R46, R265 (a), (b): the outstanding command is the one the selector waits for, and nothing else is
outstanding; in an ISSUE phase nothing is. A transmission carries the receiver it arms (R253). -/
def Outstanding (s : State) : Prop :=
  match waitsFor s.selector with
  | some .tx =>
    (∃ q, s.env.tx = some q ∧
      q.rxAfter = (if s.state = stISendPoll then some .resp
        else if s.state = stRSendResponse then some .final else none)) ∧
    s.env.rx = none ∧ s.env.timer = none
  | some .rx => s.env.tx = none ∧ s.env.rx.isSome ∧ s.env.timer = none
  | some .dly => s.env.tx = none ∧ s.env.rx = none ∧ s.env.timer.isSome
  | none => s.env.tx = none ∧ s.env.rx = none ∧ s.env.timer = none

/-- R47: the registers of the other role hold their reset values. -/
def OtherRoleIdle (s : State) : Prop :=
  if s.cfgRole = 0#1 then
    s.t3 = 0#64 ∧ s.t4 = 0#64 ∧ s.t5 = 0#64 ∧ s.t6 = 0#64 ∧ s.e0 = 0#32 ∧ s.e1 = 0#32 ∧
      s.e2 = 0#32 ∧ s.valid &&& 0xF8#8 = 0#8
  else s.t0 = 0#64 ∧ s.t1 = 0#64 ∧ s.t2 = 0#64 ∧ s.valid &&& 0x07#8 = 0#8

/-- R36, R37, R236: captured timestamps have bits [63:40] zero; a predicted T2 is below 2^40 + 2^16. -/
def TimestampsBounded (s : State) : Prop :=
  s.t0.toNat < 2 ^ 40 ∧ s.t1.toNat < 2 ^ 40 ∧ s.t2.toNat < 2 ^ 40 + 2 ^ 16 ∧ s.t3.toNat < 2 ^ 40 ∧
    s.t4.toNat < 2 ^ 40 ∧ s.t5.toNat < 2 ^ 40 ∧ s.t6.toNat < 2 ^ 40

/-- R41, R280: STATUS[7:5] is 0 and LAST_ERR is a code of R280. -/
def StatusLegal (s : State) : Prop :=
  s.status.extractLsb' 5 3 = 0#3 ∧ (lastErr s.status).toNat ≤ 4

/-- R43 and the canonical form: TXBUF is well-formed and TXLEN is 0, 10, 13 or 22. -/
def TxLegal (s : State) : Prop :=
  Memory.wf s.txbuf = true ∧ (s.txlen = 0#5 ∨ s.txlen = 10#5 ∨ s.txlen = 13#5 ∨ s.txlen = 22#5)

/-- All of the above: what every run from reset keeps. -/
def RunInv (s : State) : Prop :=
  Running s ∧ Captured s ∧ Outstanding s ∧ OtherRoleIdle s ∧ TimestampsBounded s ∧ StatusLegal s ∧
    TxLegal s

/-- R213 and R214 on four intervals: the exact quotient rounded toward zero, or 0 with DEGEN. -/
def QuotientRule (ra rb da db : U32) (tof : U64) (degen : Bool) : Prop :=
  let num : Int := (ra.toNat : Int) * rb.toNat - (da.toNat : Int) * db.toNat
  let den : Int := (ra.toNat : Int) + rb.toNat + da.toNat + db.toNat
  if den = 0 then tof = 0#64 ∧ degen = true else degen = false ∧ tof.toInt = Int.tdiv num den

/-- A step that neither faults nor refuses. -/
def Goes (r : Res) : Prop := ∃ s', r = .next s'

end Sys2Proof.Machine
end

