-- ==== Sys2Proof/Certificates/Slice0/Obligations.lean ====
section
/-! DEFINITION. The statements for the provers. Each says which rules of spec/ it formalises. A clause
that is the model's choice is named with its log entry. -/

open Sys2Proof Sys2Proof.Machine

/-! ### Encodings -/

/-- Tier 3. Decoding an encoded well-formed instruction of any namespace, whatever follows it on the
stream, gives it back: R84-R86, R90-R97, R100, R102. The operand bytes of unit functions are the
model's (log 10), and so is the byte order of the result word RW (log 28). -/
def Obligations.DecodeOfEncodeIsIdentity : Prop :=
  ∀ (P : Params) (i : Instr) (rest : List Byte), P.wf = true → i.wf = true →
    decode P i.port (encode P i ++ rest) = .ok (i, rest)

/-- Tier 1, a sanity check: one word of each namespace, written out from the spec's encoding (V-C2, V-E15,
V-E1, V-E6, V-E14 with RW in the byte order of log 28; R102 with the operand bytes of log 10). -/
def Obligations.SampleWordsDecode : Prop :=
  decode Params.default .frame
      [0x41#8, 0x88#8, 0xFF#8, 0xCA#8, 0xDE#8, 0x57#8, 0x41#8, 0x56#8, 0x45#8, 0x21#8] =
    .ok (.framePoll 0xFF#8, []) ∧
  decode Params.default .selector [0x0E#8] = .ok (.iSendFinalRepeatPause, []) ∧
  decode Params.default .command
      [0x61#8, 0x00#8, 0x02#8, 0x00#8, 0x10#8, 0x00#8, 0x00#8, 0x00#8, 0xAA#8, 0xBB#8] =
    .ok (.cmdTx .immediate true .resp 0x10#32 [0xAA#8, 0xBB#8], []) ∧
  decode Params.default .event
      [0x01#8, 0x00#8, 0x00#8, 0x00#8, 0x00#8, 0x00#8, 0x00#8, 0x10#8, 0x00#8] =
    .ok (.evTxDone ⟨0x00#8, 0x00#8, 0x00#8, 0x10#8, 0x00#8⟩, []) ∧
  decode Params.default .result (0x01#8 :: List.replicate 27 0x00#8) =
    .ok (.result true 0#64 0#32 0#32 0#32 0#32, []) ∧
  decode Params.default .unitFn [0x0A#8, 0x10#8, 0x00#8, 0x00#8, 0x00#8, 0xF0#8, 0xFF#8, 0xFF#8, 0xFF#8] =
    .ok (.unitSub32 0x00000010#32 0xFFFFFFF0#32, [])

/-- R95, R96: what every event word is, by CODE, with its data; the other bits have no effect (R98 (d)). -/
def Obligations.EventWordMeaning : Prop :=
  ∀ (ew : U32) (ts : TsBytes) (f rest : List Byte),
    (ew.extractLsb' 0 4 = 0x1#4 → decodeEvent (le32 ew ++ (ts.bytes ++ rest)) = .ok (.txDone ts, rest)) ∧
    (ew.extractLsb' 0 4 = 0x2#4 → decodeEvent (le32 ew ++ rest) = .ok (.txErr, rest)) ∧
    (ew.extractLsb' 0 4 = 0x3#4 → (ew.extractLsb' 8 8).toNat = f.length →
      decodeEvent (le32 ew ++ (ts.bytes ++ (f ++ rest))) = .ok (.rxGood ts f, rest)) ∧
    (ew.extractLsb' 0 4 = 0x4#4 → decodeEvent (le32 ew ++ rest) = .ok (.rxTimeout, rest)) ∧
    (ew.extractLsb' 0 4 = 0x5#4 → decodeEvent (le32 ew ++ rest) = .ok (.rxErr, rest)) ∧
    (ew.extractLsb' 0 4 = 0x6#4 → decodeEvent (le32 ew ++ rest) = .ok (.delayDone, rest)) ∧
    (ew.extractLsb' 0 4 = 0x0#4 ∨ 0x7#4 ≤ ew.extractLsb' 0 4 →
      decodeEvent (le32 ew ++ rest) = .ok (.reserved (ew.extractLsb' 0 4), rest))

/-- R90: SS is `STATE << 2 | PHASE`; the 18 legal values and the action each selects; every other value is
illegal; a block that is not stuck performs the action its selector selects. -/
def Obligations.SelectorSelectsAction : Prop :=
  let table : List (BitVec 6 × Instr) :=
    [(0x00#6, .iSendPollIssue), (0x01#6, .iSendPollAwait), (0x05#6, .iAwaitResponseAwait),
     (0x08#6, .iSendFinalIssue), (0x09#6, .iSendFinalAwait), (0x0C#6, .iSendFinalRepeatIssue),
     (0x0E#6, .iSendFinalRepeatPause), (0x0D#6, .iSendFinalRepeatAwait), (0x10#6, .iIdleIssue),
     (0x11#6, .iIdleAwait), (0x20#6, .rAwaitPollIssue), (0x21#6, .rAwaitPollAwait),
     (0x24#6, .rSendResponseIssue), (0x25#6, .rSendResponseAwait), (0x29#6, .rAwaitFinalAwait),
     (0x2C#6, .rAwaitFinalRepeatIssue), (0x2D#6, .rAwaitFinalRepeatAwait), (0x30#6, .rComputeIssue)]
  ∀ s : State,
    s.selector = (s.state.setWidth 6 <<< 2 ||| s.phase.setWidth 6) ∧
    (∀ e ∈ table, s.selector = e.1 → s.stuck = false → s.probe = none → step s = exec e.2 s) ∧
    ((∀ e ∈ table, s.selector ≠ e.1) → s.stuck = true)

/-- R94, R98 (a): every command a step of the block emits has one of the ten words of R94 (nine values),
in any state with nothing on the probe port. -/
def Obligations.StepEmitsTabledWords : Prop :=
  ∀ s s' : State, s.probe = none → step s = .next s' →
    ∃ os : List Output, s'.trace = s.trace ++ os ∧
      ∀ c : Command, .cmd c ∈ os → commandWord c ∈
        [0x000A0061#32, 0x00160001#32, 0x00160011#32, 0x000D00A1#32, 0x00000002#32, 0x00000003#32,
         0x00000004#32, 0x00000005#32, 0x00000105#32]

/-! ### The Frame Codec -/

/-- R121, R122, R123: the frames the three encoders build, byte by byte; nothing else changes. -/
def Obligations.EncodersBuildFrames : Prop :=
  ∀ (s : State) (seq : Byte) (pollTx respRx finalTx : U64),
    (∃ f : List Byte, exec (.unitEncodePoll seq) s = .next { s with unitOut := .bytes f } ∧
      f.length = 10 ∧
      ∀ i < 10, f.getD i 0#8 = if i = 2 then seq else s.params.hdrPoll.toList.getD i 0#8) ∧
    (∃ f : List Byte, exec (.unitEncodeResponse seq) s = .next { s with unitOut := .bytes f } ∧
      f.length = 13 ∧
      (∀ i < 10, f.getD i 0#8 = if i = 2 then seq else s.params.hdrResp.toList.getD i 0#8) ∧
      f.drop 10 = [s.params.actCode, s.params.actParam.setWidth 8, (s.params.actParam >>> 8).setWidth 8]) ∧
    (∃ f : List Byte,
      exec (.unitEncodeFinal seq pollTx respRx finalTx) s = .next { s with unitOut := .bytes f } ∧
      f.length = 22 ∧
      (∀ i < 10, f.getD i 0#8 = if i = 2 then seq else s.params.hdrFinal.toList.getD i 0#8) ∧
      ∀ i < 4, f.getD (10 + i) 0#8 = (pollTx >>> (8 * i)).setWidth 8 ∧
        f.getD (14 + i) 0#8 = (respRx >>> (8 * i)).setWidth 8 ∧
        f.getD (18 + i) 0#8 = (finalTx >>> (8 * i)).setWidth 8)

/-- R124: the decoder of a Final's timestamps fails below 22 bytes and reads three little-endian fields
otherwise, whatever follows them; nothing else changes. -/
def Obligations.FinalDecoderReadsFields : Prop :=
  ∀ (s : State) (f : List Byte),
    (f.length < 22 →
      exec (.unitDecodeFinalTimestamps f) s = .next { s with unitOut := .decodeFail }) ∧
    (22 ≤ f.length → ∃ a b c : U32,
      exec (.unitDecodeFinalTimestamps f) s = .next { s with unitOut := .timestamps a b c } ∧
      ∀ i < 4, (a >>> (8 * i)).setWidth 8 = f.getD (10 + i) 0#8 ∧
        (b >>> (8 * i)).setWidth 8 = f.getD (14 + i) 0#8 ∧
        (c >>> (8 * i)).setWidth 8 = f.getD (18 + i) 0#8)

/-- R125: `matches_type` is the length check under LEN_CHECK and the equality of bytes 0-1 and 3-9 with
the template; nothing else changes. -/
def Obligations.MatcherComparesHeader : Prop :=
  ∀ (s : State) (f : List Byte) (t : FrameType), ∃ b : Bool,
    exec (.unitMatchesType f t) s = .next { s with unitOut := .flag b } ∧
    (b = true ↔
      (match s.params.lenCheck with
        | .exact => f.length = (match t with | .poll => 10 | .response => 13 | .final => 22)
        | .headerOnly => 10 ≤ f.length) ∧
      ∀ i < 10, i ≠ 2 →
        f.getD i 0#8 = (match t with
          | .poll => s.params.hdrPoll
          | .response => s.params.hdrResp
          | .final => s.params.hdrFinal).toList.getD i 0#8)

/-- R126, R127: the value four bytes decode to, and the four bytes a value encodes to; nothing else
changes. -/
def Obligations.LittleEndianWords : Prop :=
  ∀ (s : State) (b0 b1 b2 b3 : Byte) (v : U32),
    (∃ w : U32, exec (.unitDecode32Le b0 b1 b2 b3) s = .next { s with unitOut := .word32 w } ∧
      w.toNat = b0.toNat + b1.toNat * 2 ^ 8 + b2.toNat * 2 ^ 16 + b3.toNat * 2 ^ 24) ∧
    exec (.unitEncode32Le v) s = .next { s with
      unitOut := .bytes [v.setWidth 8, (v >>> 8).setWidth 8, (v >>> 16).setWidth 8, (v >>> 24).setWidth 8] }

/-- R128, the codec laws (a)-(d): round trips, masking, and type separation under R8 (b). -/
def Obligations.CodecLaws : Prop :=
  (∀ (P : Params) (seq : Byte) (a b c : U32),
    decodeFinalTimestamps (encodeFinal P seq (a.setWidth 64) (b.setWidth 64) (c.setWidth 64)) =
      some (a, b, c)) ∧
  (∀ (v : U32) (b0 b1 b2 b3 : Byte),
    le32 (ofLe32 b0 b1 b2 b3) = [b0, b1, b2, b3] ∧
    ofLe32 ((le32 v).getD 0 0#8) ((le32 v).getD 1 0#8) ((le32 v).getD 2 0#8) ((le32 v).getD 3 0#8) = v) ∧
  ∀ (P : Params) (seq : Byte) (a b c : U64) (t : FrameType),
    (matchesType P (encodePoll P seq) .poll = true ∧ matchesType P (encodeResponse P seq) .response = true ∧
      matchesType P (encodeFinal P seq a b c) .final = true) ∧
    (P.wf = true →
      (t ≠ .poll → matchesType P (encodePoll P seq) t = false) ∧
      (t ≠ .response → matchesType P (encodeResponse P seq) t = false) ∧
      (t ≠ .final → matchesType P (encodeFinal P seq a b c) t = false))

/-! ### Timestamp Arithmetic -/

/-- R231, R232, R233: widening, narrowing, and subtraction modulo 2^32; nothing else changes. -/
def Obligations.TimestampWidths : Prop :=
  ∀ (s : State) (b : TsBytes) (t : U64) (x y : U32),
    (∃ w : U64, exec (.unitWiden40To64 b) s = .next { s with unitOut := .word64 w } ∧
      w.toNat = b.b0.toNat + b.b1.toNat * 2 ^ 8 + b.b2.toNat * 2 ^ 16 + b.b3.toNat * 2 ^ 24 +
        b.b4.toNat * 2 ^ 32) ∧
    (∃ w : U32, exec (.unitNarrowTo32 t) s = .next { s with unitOut := .word32 w } ∧
      w.toNat = t.toNat % 2 ^ 32) ∧
    (∃ w : U32, exec (.unitSub32 x y) s = .next { s with unitOut := .word32 w } ∧
      (w.toNat : Int) = ((x.toNat : Int) - y.toNat) % 2 ^ 32)

/-- R235, R236: alignment keeps bits [39:8] and clears bit 0; the prediction is not reduced modulo 2^40;
nothing else changes. -/
def Obligations.AlignAndPredict : Prop :=
  ∀ (s : State) (t : U64) (a : U32) (ant : U16),
    (∃ w : U32, exec (.unitAlignDelayedTx t) s = .next { s with unitOut := .word32 w } ∧
      w.toNat = t.toNat / 2 ^ 8 % 2 ^ 32 / 2 * 2) ∧
    (∃ w : U64, exec (.unitPredictFinalTx a ant) s = .next { s with unitOut := .word64 w } ∧
      w.toNat = a.toNat * 2 ^ 8 + ant.toNat)

/-- R234: on one 40-bit counter the 32-bit difference is the elapsed time modulo 2^32, and the elapsed
time itself where that is below 2^32. -/
def Obligations.WrapAroundSafe : Prop :=
  ∀ t1 t2 : U64, t1.toNat < 2 ^ 40 → t2.toNat < 2 ^ 40 →
    let d := (t2.toNat + 2 ^ 40 - t1.toNat) % 2 ^ 40
    (sub32 (narrowTo32 t2) (narrowTo32 t1)).toNat = d % 2 ^ 32 ∧
    (d < 2 ^ 32 → (sub32 (narrowTo32 t2) (narrowTo32 t1)).toNat = d)

/-- R317, R235, R236: the scheduled time is a multiple of 512, at most 511 units before the exact sum
modulo 2^40; the prediction is below 2^40 + 2^16. -/
def Obligations.ScheduledTimeGranularity : Prop :=
  ∀ (t1 : U64) (delay : U32) (ant : U16), t1.toNat < 2 ^ 40 →
    let sum := (t1.toNat + delay.toNat) % 2 ^ 40
    let a := alignDelayedTx (t1 + delay.setWidth 64)
    a.toNat * 2 ^ 8 % 512 = 0 ∧ a.toNat * 2 ^ 8 ≤ sum ∧ sum - a.toNat * 2 ^ 8 ≤ 511 ∧
      (predictFinalTx a ant).toNat < 2 ^ 40 + 2 ^ 16 ∧
      (2 ^ 40 ≤ (predictFinalTx a ant).toNat → 0xFFFFFF00 ≤ a.toNat)

/-! ### The Ranging Calculator -/

/-- R211: the four intervals, each a difference modulo 2^32; nothing else changes. -/
def Obligations.IntervalsAreDifferences : Prop :=
  ∀ (s : State) (pt rr ft prx rtx frx : U32), ∃ ra rb da db : U32,
    exec (.unitRangingIntervals pt rr ft prx rtx frx) s =
      .next { s with unitOut := .intervals ra rb da db } ∧
    (ra.toNat : Int) = ((rr.toNat : Int) - pt.toNat) % 2 ^ 32 ∧
    (rb.toNat : Int) = ((frx.toNat : Int) - rtx.toNat) % 2 ^ 32 ∧
    (da.toNat : Int) = ((ft.toNat : Int) - rr.toNat) % 2 ^ 32 ∧
    (db.toNat : Int) = ((rtx.toNat : Int) - prx.toNat) % 2 ^ 32

/-- R212, R213, R214: `TOF_DTU` is the exact quotient rounded toward zero, and 0 with DEGEN where the
denominator is 0; nothing else changes. -/
def Obligations.TofIsRoundedQuotient : Prop :=
  ∀ (s : State) (ra rb da db : U32), ∃ (tof : U64) (degen : Bool),
    exec (.unitTofDeviceUnits ra rb da db) s = .next { s with unitOut := .tof tof degen } ∧
    QuotientRule ra rb da db tof degen

/-- R215: the range of `TOF_DTU`, and both bounds reached. -/
def Obligations.TofRange : Prop :=
  (∀ v : Intervals, -(2 ^ 31 - 1) ≤ (tofDeviceUnits v).toInt ∧ (tofDeviceUnits v).toInt ≤ 2 ^ 31 - 1) ∧
  (tofDeviceUnits ⟨0xFFFFFFFF#32, 0xFFFFFFFF#32, 0#32, 0#32⟩).toInt = 2147483647 ∧
  (tofDeviceUnits ⟨0#32, 0#32, 0xFFFFFFFF#32, 0xFFFFFFFF#32⟩).toInt = -2147483647

/-- R219: where Ra * Rb = Da * Db the result is 0 (with `den` not 0, or 0). -/
def Obligations.CancellationLaw : Prop :=
  ∀ v : Intervals, v.ra.toNat * v.rb.toNat = v.da.toNat * v.db.toNat → tofDeviceUnits v = 0#64

/-- R220: where Ra = Db + 2t and Rb = Da + 2t and `den` is not 0, the result is t. -/
def Obligations.IdealClockLaw : Prop :=
  ∀ (v : Intervals) (t : Nat), v.ra.toNat = v.db.toNat + 2 * t → v.rb.toNat = v.da.toNat + 2 * t →
    v.ra.toNat + v.rb.toNat + v.da.toNat + v.db.toNat ≠ 0 →
    (tofDeviceUnits v).toInt = t ∧ tofDegen v = false

/-- R216, R217: under every parameter record the time of flight and the distance are exact and keep the sign of
`TOF_DTU`; nothing else changes. -/
def Obligations.TimeAndDistance : Prop :=
  ∀ (s : State) (tof : U64), 0 < s.params.dtuSeconds.val ∧ 0 < s.params.speedOfLight.val ∧ ∃ q d : Rat,
    exec (.unitTimeOfFlight tof) s = .next { s with unitOut := .rational q } ∧
    exec (.unitDistance tof) s = .next { s with unitOut := .rational d } ∧
    q = (tof.toInt : Rat) * s.params.dtuSeconds.val ∧ d = q * s.params.speedOfLight.val ∧
    (d < 0 ↔ tof.toInt < 0) ∧ (d = 0 ↔ tof.toInt = 0)

/-! ### Initiator state actions -/

/-- R150: the exchange clear and the Poll; every other register and byte as before. -/
def Obligations.SendPollIssue : Prop :=
  ∀ s : State, Memory.wf s.txbuf = true →
    Sends .iSendPollIssue s s.events
      { s.arch with t0 := 0#64, t1 := 0#64, t2 := 0#64, valid := s.valid &&& 0xF8#8 }
      .immediate true .resp 0#32 (encodePoll s.params s.seq) 10#5 0x0#4 ∧
    commandWord (.tx .immediate true .resp 0#32 (encodePoll s.params s.seq)) = 0x000A0061#32

/-- R151: TX_DONE captures T0 and counts SEQ; TX_ERR restarts at I_SEND_POLL. -/
def Obligations.SendPollAwait : Prop :=
  ∀ (s : State) (ts : TsBytes) (rest : List Byte),
    (Offered s (.txDone ts) rest → Answers .iSendPollAwait s rest { s.arch with
      t0 := widen40To64 ts, valid := s.valid ||| 0x01#8, seq := s.seq + 1#8
      state := 0x1#4, phase := 1#2 }) ∧
    (Offered s .txErr rest → Answers .iSendPollAwait s rest (failedArch s 1#8 0x0#4))

/-- R152: a Response captures T1; a timeout, an error or another frame restarts through I_IDLE. -/
def Obligations.AwaitResponse : Prop :=
  ∀ (s : State) (ts : TsBytes) (f rest : List Byte),
    (Offered s .rxTimeout rest → Answers .iAwaitResponseAwait s rest (failedArch s 2#8 0x4#4)) ∧
    (Offered s .rxErr rest → Answers .iAwaitResponseAwait s rest (failedArch s 3#8 0x4#4)) ∧
    (Offered s (.rxGood ts f) rest → matchesType s.params f .response = false →
      Answers .iAwaitResponseAwait s rest (failedArch s 4#8 0x4#4)) ∧
    (Offered s (.rxGood ts f) rest → matchesType s.params f .response = true →
      Answers .iAwaitResponseAwait s rest { s.arch with
        t1 := widen40To64 ts, valid := s.valid ||| 0x02#8, state := 0x2#4, phase := 0#2 })

/-- R153: the aligned time, the predicted T2 and the first Final, in the start mode FINAL_TX_MODE, where
T0 and T1 are valid (R291 otherwise). -/
def Obligations.SendFinalIssue : Prop :=
  ∀ s : State, Memory.wf s.txbuf = true → s.valid &&& 0x03#8 = 0x03#8 →
    let a := alignDelayedTx (s.t1 + s.params.respToFinalDelay.setWidth 64)
    let t2 := predictFinalTx a s.cfgAntDly
    Sends .iSendFinalIssue s s.events { s.arch with t2 := t2, valid := s.valid ||| 0x04#8 }
      s.params.finalTxMode false .noTimeout a (encodeFinal s.params s.seq s.t0 s.t1 t2) 22#5 0x2#4

/-- R154: TX_DONE overwrites the predicted T2 and counts SEQ; TX_ERR restarts through I_IDLE. -/
def Obligations.SendFinalAwait : Prop :=
  ∀ (s : State) (ts : TsBytes) (rest : List Byte),
    (Offered s (.txDone ts) rest → Answers .iSendFinalAwait s rest { s.arch with
      t2 := widen40To64 ts, valid := s.valid ||| 0x04#8, seq := s.seq + 1#8
      state := 0x3#4, phase := 0#2 }) ∧
    (Offered s .txErr rest → Answers .iSendFinalAwait s rest (failedArch s 1#8 0x4#4))

/-- R155, R158, R185: the three ISSUE steps that emit one command and wait. -/
def Obligations.WaitAndRearmIssue : Prop :=
  ∀ s : State,
    Answers .iSendFinalRepeatIssue s s.events { s.arch with
      trace := s.trace ++ [.cmd (.wait .finalRepeatPause)], state := 0x3#4, phase := 2#2 } ∧
    Answers .iIdleIssue s s.events { s.arch with
      trace := s.trace ++ [.cmd (.wait .interRanging)], state := 0x4#4, phase := 1#2 } ∧
    Answers .rAwaitFinalRepeatIssue s s.events { s.arch with
      trace := s.trace ++ [.cmd (.armRx .noTimeout)], state := 0xB#4, phase := 1#2 } ∧
    commandWord (.wait .finalRepeatPause) = 0x00000105#32 ∧
    commandWord (.wait .interRanging) = 0x00000005#32 ∧
    commandWord (.armRx .noTimeout) = 0x00000002#32

/-- R156: DELAY_DONE sends the repeated Final at once, with the actual T2 and the counted SEQ, where T0, T1
and T2 are valid (R291 otherwise). -/
def Obligations.SendFinalRepeatPause : Prop :=
  ∀ (s : State) (rest : List Byte), Memory.wf s.txbuf = true → s.valid &&& 0x07#8 = 0x07#8 →
    Offered s .delayDone rest →
    Sends .iSendFinalRepeatPause s rest s.arch .immediate false .noTimeout 0#32
      (encodeFinal s.params s.seq s.t0 s.t1 s.t2) 22#5 0x3#4 ∧
    commandWord (.tx .immediate false .noTimeout 0#32 (encodeFinal s.params s.seq s.t0 s.t1 s.t2)) =
      0x00160001#32

/-- R157: TX_DONE counts SEQ and discards the timestamp; TX_ERR restarts through I_IDLE. -/
def Obligations.SendFinalRepeatAwait : Prop :=
  ∀ (s : State) (ts : TsBytes) (rest : List Byte),
    (Offered s (.txDone ts) rest → Answers .iSendFinalRepeatAwait s rest { s.arch with
      seq := s.seq + 1#8, state := 0x4#4, phase := 0#2 }) ∧
    (Offered s .txErr rest → Answers .iSendFinalRepeatAwait s rest (failedArch s 1#8 0x4#4))

/-- R159: DELAY_DONE returns to I_SEND_POLL and changes nothing else. -/
def Obligations.IdleAwait : Prop :=
  ∀ (s : State) (rest : List Byte), Offered s .delayDone rest →
    Answers .iIdleAwait s rest { s.arch with state := 0x0#4, phase := 0#2 }

/-! ### Responder state actions -/

/-- R180: the exchange clear and an arm with no timeout. -/
def Obligations.AwaitPollIssue : Prop :=
  ∀ s : State,
    Answers .rAwaitPollIssue s s.events { s.arch with
      t3 := 0#64, t4 := 0#64, t5 := 0#64, t6 := 0#64, e0 := 0#32, e1 := 0#32, e2 := 0#32
      valid := s.valid &&& 0x07#8
      trace := s.trace ++ [.cmd (.armRx .noTimeout)], state := 0x8#4, phase := 1#2 } ∧
    commandWord (.armRx .noTimeout) = 0x00000002#32

/-- R181: a Poll captures T3; a timeout, an error or another frame restarts at once. -/
def Obligations.AwaitPollAwait : Prop :=
  ∀ (s : State) (ts : TsBytes) (f rest : List Byte),
    (Offered s .rxTimeout rest → Answers .rAwaitPollAwait s rest (failedArch s 2#8 0x8#4)) ∧
    (Offered s .rxErr rest → Answers .rAwaitPollAwait s rest (failedArch s 3#8 0x8#4)) ∧
    (Offered s (.rxGood ts f) rest → matchesType s.params f .poll = false →
      Answers .rAwaitPollAwait s rest (failedArch s 4#8 0x8#4)) ∧
    (Offered s (.rxGood ts f) rest → matchesType s.params f .poll = true →
      Answers .rAwaitPollAwait s rest { s.arch with
        t3 := widen40To64 ts, valid := s.valid ||| 0x08#8, state := 0x9#4, phase := 0#2 })

/-- R182: the Response, with the receiver armed after it for the Final. -/
def Obligations.SendResponseIssue : Prop :=
  ∀ s : State, Memory.wf s.txbuf = true →
    Sends .rSendResponseIssue s s.events s.arch .immediate true .final 0#32
      (encodeResponse s.params s.seq) 13#5 0x9#4 ∧
    commandWord (.tx .immediate true .final 0#32 (encodeResponse s.params s.seq)) = 0x000D00A1#32

/-- R183: TX_DONE captures T4 and counts SEQ; TX_ERR restarts at R_AWAIT_POLL. -/
def Obligations.SendResponseAwait : Prop :=
  ∀ (s : State) (ts : TsBytes) (rest : List Byte),
    (Offered s (.txDone ts) rest → Answers .rSendResponseAwait s rest { s.arch with
      t4 := widen40To64 ts, valid := s.valid ||| 0x10#8, seq := s.seq + 1#8
      state := 0xA#4, phase := 1#2 }) ∧
    (Offered s .txErr rest → Answers .rSendResponseAwait s rest (failedArch s 1#8 0x8#4))

/-- R184: SEQ counts whatever the outcome; a Final of the right header captures T5, its payload unread. -/
def Obligations.AwaitFinal : Prop :=
  ∀ (s : State) (ts : TsBytes) (f rest : List Byte),
    let counted := { s with seq := s.seq + 1#8 }
    (Offered s .rxTimeout rest → Answers .rAwaitFinalAwait s rest (failedArch counted 2#8 0x8#4)) ∧
    (Offered s .rxErr rest → Answers .rAwaitFinalAwait s rest (failedArch counted 3#8 0x8#4)) ∧
    (Offered s (.rxGood ts f) rest → matchesType s.params f .final = false →
      Answers .rAwaitFinalAwait s rest (failedArch counted 4#8 0x8#4)) ∧
    (Offered s (.rxGood ts f) rest → matchesType s.params f .final = true →
      Answers .rAwaitFinalAwait s rest { s.arch with
        seq := s.seq + 1#8, t5 := widen40To64 ts, valid := s.valid ||| 0x20#8
        state := 0xB#4, phase := 0#2 })

/-- R186: SEQ counts whatever the outcome; a Final whose payload decodes gives E0-E2 and T6; a mismatch or
a decode failure restarts. -/
def Obligations.AwaitFinalRepeat : Prop :=
  ∀ (s : State) (ts : TsBytes) (f rest : List Byte),
    let counted := { s with seq := s.seq + 1#8 }
    (Offered s .rxTimeout rest →
      Answers .rAwaitFinalRepeatAwait s rest (failedArch counted 2#8 0x8#4)) ∧
    (Offered s .rxErr rest → Answers .rAwaitFinalRepeatAwait s rest (failedArch counted 3#8 0x8#4)) ∧
    (Offered s (.rxGood ts f) rest →
      matchesType s.params f .final = false ∨ decodeFinalTimestamps f = none →
      Answers .rAwaitFinalRepeatAwait s rest (failedArch counted 4#8 0x8#4)) ∧
    (∀ a b c : U32, Offered s (.rxGood ts f) rest → matchesType s.params f .final = true →
      decodeFinalTimestamps f = some (a, b, c) →
      Answers .rAwaitFinalRepeatAwait s rest { s.arch with
        seq := s.seq + 1#8, e0 := a, e1 := b, e2 := c, t6 := widen40To64 ts
        valid := s.valid ||| 0xC0#8, state := 0xC#4, phase := 0#2 })

/-- R187, R210, R221: the result record, appended where the registers read are valid (R291 otherwise),
and the return to R_AWAIT_POLL. -/
def Obligations.ComputeEmitsResult : Prop :=
  ∀ s : State,
    let second := s.params.finalRxSource = .second
    let need := if second then 0xD8#8 else 0xB8#8
    let frx := if second then s.t6 else s.t5
    s.valid &&& need = need →
    ∃ r : ResultRecord,
      Answers .rComputeIssue s s.events { s.arch with
        trace := s.trace ++ [.res r], state := 0x8#4, phase := 0#2 } ∧
      r.ra = s.e1 - s.e0 ∧ r.rb = frx.setWidth 32 - s.t4.setWidth 32 ∧ r.da = s.e2 - s.e1 ∧
      r.db = s.t4.setWidth 32 - s.t3.setWidth 32 ∧
      QuotientRule r.ra r.rb r.da r.db r.tof r.degen

/-! ### Events -/

/-- R252 by selector (R151, R154, R157, R183): what EV_TX_DONE does in each of the four pairs that wait for
the TX class. The EV row as an event step is log 13. -/
def Obligations.TxDoneEvent : Prop :=
  ∀ (s : State) (ts : TsBytes), s.stuck = false →
    (s.selector = 0x01#6 → Answers (.evTxDone ts) s s.events { s.arch with
      t0 := widen40To64 ts, valid := s.valid ||| 0x01#8, seq := s.seq + 1#8
      state := 0x1#4, phase := 1#2 }) ∧
    (s.selector = 0x09#6 → Answers (.evTxDone ts) s s.events { s.arch with
      t2 := widen40To64 ts, valid := s.valid ||| 0x04#8, seq := s.seq + 1#8
      state := 0x3#4, phase := 0#2 }) ∧
    (s.selector = 0x0D#6 → Answers (.evTxDone ts) s s.events { s.arch with
      seq := s.seq + 1#8, state := 0x4#4, phase := 0#2 }) ∧
    (s.selector = 0x25#6 → Answers (.evTxDone ts) s s.events { s.arch with
      t4 := widen40To64 ts, valid := s.valid ||| 0x10#8, seq := s.seq + 1#8
      state := 0xA#4, phase := 1#2 })

/-- R281, R283, R284: EV_TX_ERR, EV_RX_TIMEOUT and EV_RX_ERR in every pair that waits for their class take
the failure path to the pair's restart target; SEQ counts where R184 and R186 say so. Log 13. -/
def Obligations.FailureEvents : Prop :=
  ∀ s : State, s.stuck = false →
    (waitsFor s.selector = some .tx →
      Answers .evTxErr s s.events (failedArch s 1#8 (restartState s.selector))) ∧
    (waitsFor s.selector = some .rx →
      Answers .evRxTimeout s s.events (failedArch (countedAt s) 2#8 (restartState s.selector)) ∧
      Answers .evRxErr s s.events (failedArch (countedAt s) 3#8 (restartState s.selector)))

/-- R258 by selector (R152, R181, R184, R186): what EV_RX_GOOD does in each of the four pairs that wait for
the RX class, with the frame accepted and with it a mismatch. A frame over 255 bytes is rejected without effect
(log 21). Log 13. -/
def Obligations.RxGoodEvent : Prop :=
  ∀ (s : State) (ts : TsBytes) (f : List Byte),
    (255 < f.length → exec (.evRxGood ts f) s = .next s) ∧
    (f.length ≤ 255 → s.stuck = false →
      (waitsFor s.selector = some .rx → matchesType s.params f (expectedType s.selector) = false →
        Answers (.evRxGood ts f) s s.events (failedArch (countedAt s) 4#8 (restartState s.selector))) ∧
      (s.selector = 0x05#6 → matchesType s.params f .response = true →
        Answers (.evRxGood ts f) s s.events { s.arch with
          t1 := widen40To64 ts, valid := s.valid ||| 0x02#8, state := 0x2#4, phase := 0#2 }) ∧
      (s.selector = 0x21#6 → matchesType s.params f .poll = true →
        Answers (.evRxGood ts f) s s.events { s.arch with
          t3 := widen40To64 ts, valid := s.valid ||| 0x08#8, state := 0x9#4, phase := 0#2 }) ∧
      (s.selector = 0x29#6 → matchesType s.params f .final = true →
        Answers (.evRxGood ts f) s s.events { s.arch with
          seq := s.seq + 1#8, t5 := widen40To64 ts, valid := s.valid ||| 0x20#8
          state := 0xB#4, phase := 0#2 }) ∧
      (s.selector = 0x2D#6 → matchesType s.params f .final = true → decodeFinalTimestamps f = none →
        Answers (.evRxGood ts f) s s.events (failedArch (countedAt s) 4#8 0x8#4)) ∧
      (∀ a b c : U32, s.selector = 0x2D#6 → matchesType s.params f .final = true →
        decodeFinalTimestamps f = some (a, b, c) →
        Answers (.evRxGood ts f) s s.events { s.arch with
          seq := s.seq + 1#8, e0 := a, e1 := b, e2 := c, t6 := widen40To64 ts
          valid := s.valid ||| 0xC0#8, state := 0xC#4, phase := 0#2 }))

/-- R257 by selector (R156, R159): what EV_DELAY_DONE does in the two pairs that wait for the DLY class.
Log 13. -/
def Obligations.DelayDoneEvent : Prop :=
  ∀ s : State, s.stuck = false →
    (s.selector = 0x11#6 →
      Answers .evDelayDone s s.events { s.arch with state := 0x0#4, phase := 0#2 }) ∧
    (s.selector = 0x0E#6 → Memory.wf s.txbuf = true → s.valid &&& 0x07#8 = 0x07#8 →
      Sends .evDelayDone s s.events s.arch .immediate false .noTimeout 0#32
        (encodeFinal s.params s.seq s.t0 s.t1 s.t2) 22#5 0x3#4)

/-- R289: an event of a reserved CODE or of another class than the pair waits for, offered at the port, is
consumed, sets EV_UNEXP and changes nothing else. -/
def Obligations.UnexpectedEventSetsFlag : Prop :=
  ∀ (s : State) (ev : Event) (cls : EventClass) (i : Instr) (rest : List Byte),
    waitsFor s.selector = some cls → eventClass ev ≠ some cls → decodeSelector s.selector = .ok i →
    Offered s ev rest → exec i s = .next { s with status := s.status ||| 0x08#8, events := rest }

/-- The model's choice (log 12, log 13; from R289 and R260): an EV row of a class the pair does not wait for,
in an ISSUE phase too, is an unexpected event; a step that is due stays due. An event word of a reserved CODE,
which is no row, is one too where it stands on the probe port (R98 (b); log 26). -/
def Obligations.UnexpectedEventRow : Prop :=
  ∀ (s : State) (ev : Event), s.stuck = false →
    (∀ i, eventClass ev ≠ waitsFor s.selector → ev.toInstr = .ok i → i.wf = true →
      exec i s = .next { s with status := s.status ||| 0x08#8 }) ∧
    (∀ (code : BitVec 4) (bs rest : List Byte), s.probe = some ⟨.event, bs⟩ →
      decodeEvent bs = .ok (.reserved code, rest) →
      step s = .next { s with probe := none, status := s.status ||| 0x08#8 })

/-- R290 and R291: a block at an illegal pair is stuck, and so is one with FAULT set at a legal pair. Every step of
a stuck block sets FAULT and does nothing else but consume an offered event; the block stays there. The model's
choices: phase 3 and a step with no event offered (log 14); an EV row run in a stuck block (log 13, and log 12
where its pair is an ISSUE pair), which R290 does not speak of. -/
def Obligations.IllegalPairIsStuck : Prop :=
  ∀ s : State,
    ((∀ i, decodeSelector s.selector ≠ .ok i) ∨ s.state.getLsbD 3 ≠ s.cfgRole.getLsbD 0 ∨
      s.status &&& 0x10#8 = 0x10#8 → s.stuck = true) ∧
    (s.stuck = true → s.probe = none →
      (s.phase = 0#2 ∨ s.phase = 3#2 → step s = .next { s with status := s.status ||| 0x10#8 }) ∧
      (∀ (ev : Event) (rest : List Byte), s.phase = 1#2 ∨ s.phase = 2#2 → Offered s ev rest →
        step s = .next { s with status := s.status ||| 0x10#8, events := rest }) ∧
      (∀ e : DecodeError, s.phase = 1#2 ∨ s.phase = 2#2 → decodeEvent s.events = .error e →
        step s = .next s)) ∧
    (s.stuck = true → ∀ (ev : Event) (i : Instr), ev.toInstr = .ok i → i.wf = true →
      exec i s = .next { s with status := s.status ||| 0x10#8 })

/-- R291: a read of an invalid register abandons the step with FAULT set, and the block, at its legal pair still,
then behaves as in R290 until reset: FAULT stays set, an offered event is consumed without effect, nothing else
changes. The model's choices: an abandoned event step consumes its event (R260; log 15), and an EV_DELAY_DONE row
is that event step (log 13). -/
def Obligations.InvalidReadFaults : Prop :=
  ∀ s : State,
    (s.valid &&& 0x03#8 ≠ 0x03#8 →
      Answers .iSendFinalIssue s s.events { s.arch with status := s.status ||| 0x10#8 }) ∧
    (∀ rest, Offered s .delayDone rest → s.valid &&& 0x07#8 ≠ 0x07#8 →
      Answers .iSendFinalRepeatPause s rest { s.arch with status := s.status ||| 0x10#8 }) ∧
    (s.stuck = false → s.selector = 0x0E#6 → s.valid &&& 0x07#8 ≠ 0x07#8 →
      Answers .evDelayDone s s.events { s.arch with status := s.status ||| 0x10#8 }) ∧
    (∀ need : BitVec 8, need = (if s.params.finalRxSource = .second then 0xD8#8 else 0xB8#8) →
      s.valid &&& need ≠ need →
      Answers .rComputeIssue s s.events { s.arch with status := s.status ||| 0x10#8 }) ∧
    (s.status &&& 0x10#8 = 0x10#8 → s.stuck = true ∧
      (s.probe = none → s.phase = 0#2 → step s = .next s) ∧
      (∀ (ev : Event) (rest : List Byte), s.probe = none → s.phase = 1#2 ∨ s.phase = 2#2 →
        Offered s ev rest → step s = .next { s with events := rest }))

/-! ### Commands, the result record, frames -/

/-- R251, R253: CMD_TX emits the command, and the driver takes on the transmission: at once, or at
`DLY << 8` when Delayed, with the receiver armed after it when RXA = 1 (the ledger is log 4). The model's
choices: a frame over 255 bytes, which has no LEN, is rejected without effect (log 21); a transmission
outstanding already is replaced, and an odd DLY is taken as it stands (log 27). -/
def Obligations.TxCommand : Prop :=
  ∀ (s : State) (mode : TxMode) (rxa : Bool) (rxto : RxTimeout) (dly : U32) (data : List Byte),
    (data.length ≤ 255 → exec (.cmdTx mode rxa rxto dly data) s = .next { s with
      trace := s.trace ++ [.cmd (.tx mode rxa rxto dly data)]
      env := { s.env with
        tx := some ⟨data, if mode = .delayed then some (dly.setWidth 40 <<< 8) else none,
          if rxa = true then some rxto else none⟩ } }) ∧
    (255 < data.length → exec (.cmdTx mode rxa rxto dly data) s = .next s)

/-- R254-R257, R264: the other commands and the result record: each appended to its output; the driver arms
the receiver, disarms it, clears its flags or starts the timer (the ledger is log 4). The model's choices:
RESET_RX leaves the event port as it is, since the outcomes R255 discards are those not listed there (log 6);
the driver's flags are a 32-bit field, and clear is 0 (log 5, unsafe); an arm or a wait outstanding already is
replaced (log 27). -/
def Obligations.CommandsAndResult : Prop :=
  ∀ (s : State) (rxto : RxTimeout) (dsel : DelaySel) (r : ResultRecord),
    exec (.cmdArmRx rxto) s = .next { s with
      trace := s.trace ++ [.cmd (.armRx rxto)], env := { s.env with rx := some rxto } } ∧
    exec .cmdResetRx s = .next { s with
      trace := s.trace ++ [.cmd .resetRx], env := { s.env with rx := none } } ∧
    exec .cmdClearStatus s = .next { s with
      trace := s.trace ++ [.cmd .clearStatus], env := { s.env with flags := 0#32 } } ∧
    exec (.cmdWait dsel) s = .next { s with
      trace := s.trace ++ [.cmd (.wait dsel)], env := { s.env with timer := some dsel } } ∧
    exec (.result r.degen r.tof r.ra r.rb r.da r.db) s = .next { s with trace := s.trace ++ [.res r] }

/-- The model's reading of R258 and R299 (log 11): a frame row is the reception of that frame at some time;
where the pair accepts its type the timestamp is captured. Any bytes on the probe port as a frame, those of no type
too (R99), are received in the same way (log 7); over 255 of them are rejected without effect (log 21). -/
def Obligations.FramesAreReceived : Prop :=
  ∀ (s : State) (seq code : Byte) (param : U16) (a b c : U32),
    (∃ ts, exec (.framePoll seq) s =
      exec (.evRxGood ts (pollFrame s.params seq)) { s with draws := s.draws + 1 }) ∧
    (∃ ts, exec (.frameResponse seq code param) s =
      exec (.evRxGood ts (responseFrame s.params seq code param)) { s with draws := s.draws + 1 }) ∧
    (∃ ts, exec (.frameFinal seq a b c) s =
      exec (.evRxGood ts (finalFrame s.params seq a b c)) { s with draws := s.draws + 1 }) ∧
    (s.stuck = false →
      (s.selector = 0x21#6 → ∃ ts, Answers (.framePoll seq) s s.events { s.arch with
        t3 := widen40To64 ts, valid := s.valid ||| 0x08#8, state := 0x9#4, phase := 0#2 }) ∧
      (s.selector = 0x05#6 → ∃ ts, Answers (.frameResponse seq code param) s s.events { s.arch with
        t1 := widen40To64 ts, valid := s.valid ||| 0x02#8, state := 0x2#4, phase := 0#2 }) ∧
      (s.selector = 0x29#6 → ∃ ts, Answers (.frameFinal seq a b c) s s.events { s.arch with
        seq := s.seq + 1#8, t5 := widen40To64 ts, valid := s.valid ||| 0x20#8
        state := 0xB#4, phase := 0#2 }) ∧
      (s.selector = 0x2D#6 → ∃ ts, Answers (.frameFinal seq a b c) s s.events { s.arch with
        seq := s.seq + 1#8, e0 := a, e1 := b, e2 := c, t6 := widen40To64 ts
        valid := s.valid ||| 0xC0#8, state := 0xC#4, phase := 0#2 })) ∧
    (∀ f : List Byte, s.probe = some ⟨.frame, f⟩ →
      (f.length ≤ 255 → ∃ ts, step s =
        exec (.evRxGood ts f) { s with probe := none, draws := s.draws + 1 }) ∧
      (255 < f.length → step s = .next { s with probe := none }))

/-! ### The step -/

/-- Tier 1. A step runs the decoded instruction: the one the selector selects (R90) where the block is not
stuck, or the one a probe word decodes to, the word consumed (log 7). A selector on the probe port puts the block at
that pair and the block steps there; a word that encodes nothing is rejected without effect (log 26). -/
def Obligations.StepRunsDecoded : Prop :=
  ∀ (s : State) (i : Instr),
    (s.probe = none → s.stuck = false → decodeSelector s.selector = .ok i → step s = exec i s) ∧
    (∀ (p : Probe) (rest : List Byte), s.probe = some p → p.port ≠ .selector →
      (p.port = .frame → rest = []) →
      decode s.params p.port p.bytes = .ok (i, rest) → step s = exec i { s with probe := none }) ∧
    (∀ (b : Byte) (bs : List Byte), s.probe = some ⟨.selector, b :: bs⟩ →
      step s = step { s with
        probe := none, state := b.extractLsb' 2 4, phase := b.extractLsb' 0 2 }) ∧
    (∀ (p : Probe) (e : DecodeError), s.probe = some p → p.port ≠ .selector → p.port ≠ .frame →
      decode s.params p.port p.bytes = .error e → e ≠ .reservedEvent →
      step s = .next { s with probe := none })

/-- R11, R260: an event step of a running block is the offered event's own instruction, its bytes taken off
the port (log 13); with none offered nothing happens (log 3). -/
def Obligations.EventStepConsumesOne : Prop :=
  ∀ (s : State), Running s → waitsFor s.selector ≠ none →
    (∀ (ev : Event) (i : Instr) (rest : List Byte), Offered s ev rest → ev.toInstr = .ok i →
      step s = exec i { s with events := rest }) ∧
    (∀ e : DecodeError, decodeEvent s.events = .error e → step s = .next s)

/-- R10, R160, R282: no step stops, in any state, whatever stands on the probe port (log 26). -/
def Obligations.StepNeverStops : Prop :=
  ∀ s : State, Goes (step s)

/-- R324: a running block with its registers captured rests in an AWAIT or PAUSE pair after at most two
steps. -/
def Obligations.SettlesInTwoSteps : Prop :=
  ∀ s : State, Running s → Captured s →
    waitsFor s.selector ≠ none ∨ ∃ s1, step s = .next s1 ∧
      (waitsFor s1.selector ≠ none ∨ ∃ s2, step s1 = .next s2 ∧ waitsFor s2.selector ≠ none)

/-- R190: an RX_TIMEOUT in R_AWAIT_POLL brings the block back to the same pair with SEQ, T3-T6, E0-E2 and
VALID unchanged, LAST_ERR 2 and the three driver commands emitted. -/
def Obligations.TimeoutIsIdempotent : Prop :=
  ∀ (s : State) (rest : List Byte), Running s → s.selector = 0x20#6 → Offered s .rxTimeout rest →
    ∃ s1 s2 s3 : State, step s = .next s1 ∧ step s1 = .next s2 ∧ step s2 = .next s3 ∧
      s1.selector = 0x21#6 ∧ s1.t3 = 0#64 ∧ s1.valid &&& 0xF8#8 = 0#8 ∧
      s3.arch = { s1.arch with
        status := (s1.status &&& 0xF8#8) ||| 2#8
        trace := s1.trace ++ [.cmd .clearStatus, .cmd .resetRx, .cmd (.armRx .noTimeout)] }

/-! ### Invariants and reset -/

/-- Every invariant holds right after reset, for every parameter record (R310, R313). -/
def Obligations.ResetEstablishesInv : Prop :=
  (∀ P : Params, RunInv (State.resetWith P)) ∧ RunInv State.reset

/-- Tier 3. R49, R290, R291: from every running state whose registers are captured, a step leads to another
such: the pair stays legal, FAULT stays clear, and whatever a rule is about to read has its valid bit. -/
def Obligations.StepKeepsRunning : Prop :=
  ∀ s s' : State, Running s → Captured s → step s = .next s' → Running s' ∧ Captured s'

/-- Tier 3. R46, R253, R265 (a), (b): the outstanding command stays the one the pair waits for, and no other
is outstanding (the ledger is log 4). -/
def Obligations.StepKeepsOutstanding : Prop :=
  ∀ s s' : State, Running s → Captured s → Outstanding s → step s = .next s' → Outstanding s'

/-- R47: the registers of the other role are never written. -/
def Obligations.StepKeepsOtherRole : Prop :=
  ∀ s s' : State, Running s → OtherRoleIdle s → step s = .next s' → OtherRoleIdle s'

/-- R36, R37, R41, R43 and the canonical form of TXBUF: every step, a probe word's too, keeps the
timestamps, STATUS and TXBUF in their legal ranges. -/
def Obligations.StepKeepsLegalValues : Prop :=
  ∀ s s' : State, TimestampsBounded s → StatusLegal s → TxLegal s → step s = .next s' →
    TimestampsBounded s' ∧ StatusLegal s' ∧ TxLegal s'

/-- R34, R48, R312: no step changes the configuration or P; outputs are only appended to. -/
def Obligations.StepKeepsConfiguration : Prop :=
  ∀ s s' : State, step s = .next s' →
    s'.cfgRole = s.cfgRole ∧ s'.cfgAntDly = s.cfgAntDly ∧ s'.params = s.params ∧
    ∃ os, s'.trace = s.trace ++ os

/-- R35, R160, R188: a step of the block adds at most 1 to SEQ; it emits at most one result, in R_COMPUTE
only, and then leaves for R_AWAIT_POLL. -/
def Obligations.SeqAndResultDiscipline : Prop :=
  ∀ s s' : State, s.probe = none → step s = .next s' →
    (s'.seq = s.seq ∨ s'.seq = s.seq + 1#8) ∧
    (s'.results = s.results ∨
      (s.selector = 0x30#6 ∧ s'.selector = 0x20#6 ∧ ∃ r, s'.trace = s.trace ++ [.res r]))

/-- R310: every register after RESET(role, ant_dly) in any state, and the outputs empty. -/
def Obligations.HardResetValues : Prop :=
  ∀ (s : State) (role : BitVec 1) (antDly : U16),
    let t := s.hardReset role antDly
    t.cfgRole = role ∧ t.cfgAntDly = antDly ∧ t.state = (if role = 0#1 then 0x0#4 else 0x8#4) ∧
    t.phase = 0#2 ∧ t.seq = 0#8 ∧
    t.t0 = 0#64 ∧ t.t1 = 0#64 ∧ t.t2 = 0#64 ∧ t.t3 = 0#64 ∧ t.t4 = 0#64 ∧ t.t5 = 0#64 ∧ t.t6 = 0#64 ∧
    t.e0 = 0#32 ∧ t.e1 = 0#32 ∧ t.e2 = 0#32 ∧ t.valid = 0#8 ∧
    (∀ a, Memory.read t.txbuf a = 0#8) ∧ t.txlen = 0#5 ∧ t.status = 0#8 ∧
    t.trace = []
end

