-- ==== Sys2Proof/Laws/Encoding.lean ====
section
/-! SUPPORT. The fields of a packed command or event word, and the byte order: what a decoder reads from
what an encoder wrote. -/

namespace Sys2Proof

/-! ### Fields of appended vectors -/

/-- A field of the low part. -/
theorem extract_append_lo {n m : Nat} (a : BitVec n) (b : BitVec m) {p l : Nat} (h : p + l ≤ m) :
    (a ++ b).extractLsb' p l = b.extractLsb' p l := by
  apply BitVec.eq_of_getLsbD_eq
  intro i hi
  have : p + i < m := by omega
  simp [BitVec.getLsbD_append, hi, this]

/-- A field of the high part. -/
theorem extract_append_hi {n m : Nat} (a : BitVec n) (b : BitVec m) {p l : Nat} (h : m ≤ p) :
    (a ++ b).extractLsb' p l = a.extractLsb' (p - m) l := by
  apply BitVec.eq_of_getLsbD_eq
  intro i hi
  have h1 : ¬ p + i < m := by omega
  have h2 : p - m + i = p + i - m := by omega
  simp [BitVec.getLsbD_append, hi, h1, h2]

/-- A whole field. -/
theorem extract_all {n : Nat} (a : BitVec n) : a.extractLsb' 0 n = a := by
  apply BitVec.eq_of_getLsbD_eq
  intro i hi
  simp [hi]

/-! ### Command words (R91) -/

section packCommand
variable (op : BitVec 4) (mode rxa : BitVec 1) (rxto dsel : BitVec 2) (len : BitVec 8)

@[simp] theorem packCommand_op : (packCommand op mode rxa rxto dsel len).extractLsb' 0 4 = op :=
  (extract_append_lo (0#8 ++ len ++ 0#6 ++ dsel ++ rxto ++ rxa ++ mode) op (by decide)).trans
    (extract_all op)

@[simp] theorem packCommand_mode : (packCommand op mode rxa rxto dsel len).extractLsb' 4 1 = mode :=
  (extract_append_hi (0#8 ++ len ++ 0#6 ++ dsel ++ rxto ++ rxa ++ mode) op (by decide)).trans
    ((extract_append_lo (0#8 ++ len ++ 0#6 ++ dsel ++ rxto ++ rxa) mode (by decide)).trans
      (extract_all mode))

@[simp] theorem packCommand_rxa : (packCommand op mode rxa rxto dsel len).extractLsb' 5 1 = rxa :=
  (extract_append_hi (0#8 ++ len ++ 0#6 ++ dsel ++ rxto ++ rxa ++ mode) op (by decide)).trans
    ((extract_append_hi (0#8 ++ len ++ 0#6 ++ dsel ++ rxto ++ rxa) mode (by decide)).trans
      ((extract_append_lo (0#8 ++ len ++ 0#6 ++ dsel ++ rxto) rxa (by decide)).trans (extract_all rxa)))

@[simp] theorem packCommand_rxto : (packCommand op mode rxa rxto dsel len).extractLsb' 6 2 = rxto :=
  (extract_append_hi (0#8 ++ len ++ 0#6 ++ dsel ++ rxto ++ rxa ++ mode) op (by decide)).trans
    ((extract_append_hi (0#8 ++ len ++ 0#6 ++ dsel ++ rxto ++ rxa) mode (by decide)).trans
      ((extract_append_hi (0#8 ++ len ++ 0#6 ++ dsel ++ rxto) rxa (by decide)).trans
        ((extract_append_lo (0#8 ++ len ++ 0#6 ++ dsel) rxto (by decide)).trans (extract_all rxto))))

@[simp] theorem packCommand_dsel : (packCommand op mode rxa rxto dsel len).extractLsb' 8 2 = dsel :=
  (extract_append_hi (0#8 ++ len ++ 0#6 ++ dsel ++ rxto ++ rxa ++ mode) op (by decide)).trans
    ((extract_append_hi (0#8 ++ len ++ 0#6 ++ dsel ++ rxto ++ rxa) mode (by decide)).trans
      ((extract_append_hi (0#8 ++ len ++ 0#6 ++ dsel ++ rxto) rxa (by decide)).trans
        ((extract_append_hi (0#8 ++ len ++ 0#6 ++ dsel) rxto (by decide)).trans
          ((extract_append_lo (0#8 ++ len ++ 0#6) dsel (by decide)).trans (extract_all dsel)))))

/-- Bits [15:10] of a packed command word are 0. -/
@[simp] theorem packCommand_low_reserved :
    (packCommand op mode rxa rxto dsel len).extractLsb' 10 6 = 0#6 :=
  (extract_append_hi (0#8 ++ len ++ 0#6 ++ dsel ++ rxto ++ rxa ++ mode) op (by decide)).trans
    ((extract_append_hi (0#8 ++ len ++ 0#6 ++ dsel ++ rxto ++ rxa) mode (by decide)).trans
      ((extract_append_hi (0#8 ++ len ++ 0#6 ++ dsel ++ rxto) rxa (by decide)).trans
        ((extract_append_hi (0#8 ++ len ++ 0#6 ++ dsel) rxto (by decide)).trans
          ((extract_append_hi (0#8 ++ len ++ 0#6) dsel (by decide)).trans
            ((extract_append_lo (0#8 ++ len) 0#6 (by decide)).trans (extract_all _))))))

@[simp] theorem packCommand_len : (packCommand op mode rxa rxto dsel len).extractLsb' 16 8 = len :=
  (extract_append_hi (0#8 ++ len ++ 0#6 ++ dsel ++ rxto ++ rxa ++ mode) op (by decide)).trans
    ((extract_append_hi (0#8 ++ len ++ 0#6 ++ dsel ++ rxto ++ rxa) mode (by decide)).trans
      ((extract_append_hi (0#8 ++ len ++ 0#6 ++ dsel ++ rxto) rxa (by decide)).trans
        ((extract_append_hi (0#8 ++ len ++ 0#6 ++ dsel) rxto (by decide)).trans
          ((extract_append_hi (0#8 ++ len ++ 0#6) dsel (by decide)).trans
            ((extract_append_hi (0#8 ++ len) 0#6 (by decide)).trans
              ((extract_append_lo 0#8 len (by decide)).trans (extract_all len)))))))

/-- Bits [31:24] of a packed command word are 0. -/
@[simp] theorem packCommand_high_reserved :
    (packCommand op mode rxa rxto dsel len).extractLsb' 24 8 = 0#8 :=
  (extract_append_hi (0#8 ++ len ++ 0#6 ++ dsel ++ rxto ++ rxa ++ mode) op (by decide)).trans
    ((extract_append_hi (0#8 ++ len ++ 0#6 ++ dsel ++ rxto ++ rxa) mode (by decide)).trans
      ((extract_append_hi (0#8 ++ len ++ 0#6 ++ dsel ++ rxto) rxa (by decide)).trans
        ((extract_append_hi (0#8 ++ len ++ 0#6 ++ dsel) rxto (by decide)).trans
          ((extract_append_hi (0#8 ++ len ++ 0#6) dsel (by decide)).trans
            ((extract_append_hi (0#8 ++ len) 0#6 (by decide)).trans
              ((extract_append_hi 0#8 len (by decide)).trans (extract_all _)))))))

end packCommand

/-! ### Event words (R95) -/

@[simp] theorem packEvent_code (code : BitVec 4) (len : BitVec 8) :
    (packEvent code len).extractLsb' 0 4 = code :=
  (extract_append_lo (0#16 ++ len ++ 0#4) code (by decide)).trans (extract_all code)

@[simp] theorem packEvent_len (code : BitVec 4) (len : BitVec 8) :
    (packEvent code len).extractLsb' 8 8 = len :=
  (extract_append_hi (0#16 ++ len ++ 0#4) code (by decide)).trans
    ((extract_append_hi (0#16 ++ len) 0#4 (by decide)).trans
      ((extract_append_lo 0#16 len (by decide)).trans (extract_all len)))

/-! ### Byte order (R15, R126, R127) -/

/-- The four bytes of a word give the word back (R128 (b)). -/
theorem ofLe32_extract (v : U32) :
    ofLe32 (v.extractLsb' 0 8) (v.extractLsb' 8 8) (v.extractLsb' 16 8) (v.extractLsb' 24 8) = v := by
  apply BitVec.eq_of_getLsbD_eq
  intro i hi
  interval_cases i <;> simp [ofLe32]

/-- The two bytes of a halfword give it back. -/
theorem ofLe16_extract (v : U16) : ofLe16 (v.extractLsb' 0 8) (v.extractLsb' 8 8) = v := by
  apply BitVec.eq_of_getLsbD_eq
  intro i hi
  interval_cases i <;> simp [ofLe16]

/-- The two words of a doubleword give it back. -/
theorem ofLe64_extract (v : U64) : ofLe64 (v.extractLsb' 0 32) (v.extractLsb' 32 32) = v := by
  apply BitVec.eq_of_getLsbD_eq
  intro i hi
  interval_cases i <;> simp [ofLe64]

end Sys2Proof
end

