-- ==== Sys2Proof/Laws/Memory.lean ====
section
/-! SUPPORT. TXBUF: reads after writes, and the canonical form is kept and unique. -/

namespace Sys2Proof.Machine

open Sys2Proof

/-- A weaker lower bound still holds. -/
theorem Memory.wfFrom_mono {m : Memory} {lo lo' : Nat} (h : lo' ≤ lo) (hw : Memory.wfFrom lo m = true) :
    Memory.wfFrom lo' m = true := by
  cases m with
  | nil => rfl
  | cons c m =>
    obtain ⟨k, v⟩ := c
    simp only [Memory.wfFrom, Bool.and_eq_true, decide_eq_true_eq] at hw ⊢
    exact ⟨⟨⟨by omega, hw.1.1.2⟩, hw.1.2⟩, hw.2⟩

/-- Below every listed offset a canonical buffer reads 0x00. -/
theorem Memory.read_below {m : Memory} {lo a : Nat} (hw : Memory.wfFrom lo m = true) (h : a < lo) :
    Memory.read m a = 0#8 := by
  induction m generalizing lo with
  | nil => rfl
  | cons c m ih =>
    obtain ⟨k, v⟩ := c
    simp only [Memory.wfFrom, Bool.and_eq_true, decide_eq_true_eq] at hw
    have hk : k ≠ a := by omega
    simp only [Memory.read, if_neg hk]
    exact ih hw.2 (by omega)

/-- Reading after a write: the written byte there, the old byte elsewhere. -/
theorem Memory.read_write {m : Memory} {lo : Nat} (hw : Memory.wfFrom lo m = true) (a b : Nat)
    (v : Byte) : Memory.read (Memory.write m a v) b = if b = a then v else Memory.read m b := by
  induction m generalizing lo with
  | nil =>
    by_cases hv : v = 0#8 <;> by_cases hb : b = a <;> simp [Memory.write, Memory.read, hv, hb, eq_comm]
    intro h; exact absurd h.symm hb
  | cons c m ih =>
    obtain ⟨k, w⟩ := c
    have hw0 := hw
    simp only [Memory.wfFrom, Bool.and_eq_true, decide_eq_true_eq] at hw
    have hlow : ∀ x, x < k + 1 → Memory.read m x = 0#8 := fun x hx => Memory.read_below hw.2 hx
    unfold Memory.write
    split
    · rename_i hak
      split
      · rename_i hv
        split
        · rename_i hb
          subst hb
          simp only [Memory.read, if_neg (by omega : ¬ k = b), hlow b (by omega), hv]
        · rfl
      · simp only [Memory.read]
        by_cases hb : b = a
        · simp [hb]
        · simp [hb, Ne.symm hb]
    · rename_i hak
      split
      · rename_i hk
        subst hk
        split
        · rename_i hv
          by_cases hb : b = a
          · simp [hb, hlow a (by omega), hv]
          · simp [Memory.read, hb, Ne.symm hb]
        · simp only [Memory.read]
          by_cases hb : b = a
          · simp [hb]
          · simp [hb, Ne.symm hb]
      · rename_i hk
        simp only [Memory.read, ih hw.2]
        by_cases hb : k = b
        · simp only [hb, if_true]
          rw [if_neg (by omega)]
        · simp only [if_neg hb]

/-- A write in range keeps the canonical form. -/
theorem Memory.wfFrom_write {m : Memory} {lo a : Nat} (hw : Memory.wfFrom lo m = true) (ha : lo ≤ a)
    (hr : a < txbufSize) (v : Byte) : Memory.wfFrom lo (Memory.write m a v) = true := by
  induction m generalizing lo with
  | nil =>
    by_cases hv : v = 0#8 <;> simp [Memory.write, Memory.wfFrom, hv, ha, hr]
  | cons c m ih =>
    obtain ⟨k, w⟩ := c
    have hw0 := hw
    simp only [Memory.wfFrom, Bool.and_eq_true, decide_eq_true_eq] at hw
    unfold Memory.write
    split
    · split
      · exact hw0
      · rename_i hv
        simp only [Memory.wfFrom, Bool.and_eq_true, decide_eq_true_eq]
        exact ⟨⟨⟨ha, hr⟩, by simpa using hv⟩, ⟨⟨by omega, hw.1.1.2⟩, hw.1.2⟩, hw.2⟩
    · split
      · rename_i hk
        subst hk
        split
        · exact Memory.wfFrom_mono (by omega) hw.2
        · rename_i hv
          simp only [Memory.wfFrom, Bool.and_eq_true, decide_eq_true_eq]
          exact ⟨⟨⟨ha, hr⟩, by simpa using hv⟩, hw.2⟩
      · simp only [Memory.wfFrom, Bool.and_eq_true, decide_eq_true_eq]
        exact ⟨⟨⟨hw.1.1.1, hw.1.1.2⟩, hw.1.2⟩, ih hw.2 (by omega)⟩

/-- A write in range keeps the canonical form. -/
theorem Memory.wf_write {m : Memory} {a : Nat} (hw : Memory.wf m = true) (hr : a < txbufSize) (v : Byte) :
    Memory.wf (Memory.write m a v) = true :=
  Memory.wfFrom_write hw (Nat.zero_le a) hr v

/-- Bytes written in range keep the canonical form. -/
theorem Memory.wf_writeFrom {m : Memory} {a : Nat} {bs : List Byte} (hw : Memory.wf m = true)
    (hr : a + bs.length ≤ txbufSize) : Memory.wf (Memory.writeFrom m a bs) = true := by
  induction bs generalizing m a with
  | nil => exact hw
  | cons b bs ih =>
    simp only [List.length_cons] at hr
    exact ih (Memory.wf_write hw (by omega) b) (by omega)

/-- Reading after bytes are written: the bytes there, the old bytes elsewhere. -/
theorem Memory.read_writeFrom {m : Memory} {a : Nat} {bs : List Byte} (hw : Memory.wf m = true)
    (hr : a + bs.length ≤ txbufSize) (x : Nat) :
    Memory.read (Memory.writeFrom m a bs) x =
      if a ≤ x ∧ x < a + bs.length then bs.getD (x - a) 0#8 else Memory.read m x := by
  induction bs generalizing m a with
  | nil => simp [Memory.writeFrom]
  | cons b bs ih =>
    simp only [List.length_cons] at hr
    simp only [Memory.writeFrom, List.length_cons]
    rw [ih (Memory.wf_write hw (by omega) b) (by omega), Memory.read_write hw]
    by_cases hx : x = a
    · subst hx
      simp
    · by_cases h1 : a + 1 ≤ x ∧ x < a + 1 + bs.length
      · have h2 : a ≤ x ∧ x < a + (bs.length + 1) := by omega
        have h3 : x - a = (x - (a + 1)) + 1 := by omega
        simp only [h1, h2, h3, List.getD_cons_succ, and_self, if_true]
      · have h2 : ¬ (a ≤ x ∧ x < a + (bs.length + 1)) := by omega
        simp only [h1, h2, hx, if_false]

/-- `TXBUF[0..n)` after a whole frame of `n` bytes is stored is the frame (R61). -/
theorem Memory.load_writeFrom {m : Memory} {bs : List Byte} (hw : Memory.wf m = true)
    (hr : bs.length ≤ txbufSize) : Memory.load (Memory.writeFrom m 0 bs) bs.length = .ok bs := by
  simp only [Memory.load, if_pos hr]
  congr 1
  apply List.ext_getElem
  · simp
  · intro i h1 h2
    simp only [List.getElem_map, List.getElem_range]
    rw [Memory.read_writeFrom hw (by omega)]
    simp only [List.length_map, List.length_range] at h1
    simp [h1]

/-- Equal contents are equal data. -/
theorem Memory.ext_of_wf {m m' : Memory} {lo : Nat} (h : Memory.wfFrom lo m = true)
    (h' : Memory.wfFrom lo m' = true) (he : ∀ a, Memory.read m a = Memory.read m' a) : m = m' := by
  induction m generalizing m' lo with
  | nil =>
    cases m' with
    | nil => rfl
    | cons c m' =>
      obtain ⟨k, v⟩ := c
      simp only [Memory.wfFrom, Bool.and_eq_true, decide_eq_true_eq] at h'
      have := he k
      simp [Memory.read] at this
      simp [← this] at h'
  | cons c m ih =>
    obtain ⟨k, v⟩ := c
    have h0 := h
    simp only [Memory.wfFrom, Bool.and_eq_true, decide_eq_true_eq] at h
    cases m' with
    | nil =>
      have := he k
      simp [Memory.read] at this
      simp [this] at h
    | cons c' m' =>
      obtain ⟨k', v'⟩ := c'
      have h0' := h'
      simp only [Memory.wfFrom, Bool.and_eq_true, decide_eq_true_eq] at h'
      have hv : v ≠ 0#8 := by simpa using h.1.2
      have hv' : v' ≠ 0#8 := by simpa using h'.1.2
      have hk : k = k' := by
        rcases Nat.lt_trichotomy k k' with hlt | heq | hgt
        · have := he k
          simp only [Memory.read, if_true, if_neg (by omega : ¬ k' = k)] at this
          rw [Memory.read_below h'.2 (by omega)] at this
          exact absurd this hv
        · exact heq
        · have := he k'
          simp only [Memory.read, if_true, if_neg (by omega : ¬ k = k')] at this
          rw [Memory.read_below h.2 (by omega)] at this
          exact absurd this.symm hv'
      subst hk
      have hvv : v = v' := by simpa [Memory.read] using he k
      subst hvv
      have : m = m' := by
        refine ih h.2 h'.2 fun a => ?_
        by_cases hak : k = a
        · rw [Memory.read_below h.2 (by omega), Memory.read_below h'.2 (by omega)]
        · simpa [Memory.read, hak] using he a
      rw [this]

end Sys2Proof.Machine
end

