-- ==== Sys2Proof/Laws/State.lean ====
section
/-! SUPPORT. One lemma per field per update of State, so that no proof unfolds a record update. -/

namespace Sys2Proof.Machine

open Sys2Proof

/-! ### State.goto -/

@[simp] theorem State.goto_state (s : State) (st : BitVec 4) (ph : BitVec 2) : (s.goto st ph).state = st := rfl
@[simp] theorem State.goto_phase (s : State) (st : BitVec 4) (ph : BitVec 2) : (s.goto st ph).phase = ph := rfl
@[simp] theorem State.goto_seq (s : State) (st : BitVec 4) (ph : BitVec 2) : (s.goto st ph).seq = s.seq := rfl
@[simp] theorem State.goto_cfgRole (s : State) (st : BitVec 4) (ph : BitVec 2) : (s.goto st ph).cfgRole = s.cfgRole := rfl
@[simp] theorem State.goto_cfgAntDly (s : State) (st : BitVec 4) (ph : BitVec 2) : (s.goto st ph).cfgAntDly = s.cfgAntDly := rfl
@[simp] theorem State.goto_status (s : State) (st : BitVec 4) (ph : BitVec 2) : (s.goto st ph).status = s.status := rfl
@[simp] theorem State.goto_t0 (s : State) (st : BitVec 4) (ph : BitVec 2) : (s.goto st ph).t0 = s.t0 := rfl
@[simp] theorem State.goto_t1 (s : State) (st : BitVec 4) (ph : BitVec 2) : (s.goto st ph).t1 = s.t1 := rfl
@[simp] theorem State.goto_t2 (s : State) (st : BitVec 4) (ph : BitVec 2) : (s.goto st ph).t2 = s.t2 := rfl
@[simp] theorem State.goto_t3 (s : State) (st : BitVec 4) (ph : BitVec 2) : (s.goto st ph).t3 = s.t3 := rfl
@[simp] theorem State.goto_t4 (s : State) (st : BitVec 4) (ph : BitVec 2) : (s.goto st ph).t4 = s.t4 := rfl
@[simp] theorem State.goto_t5 (s : State) (st : BitVec 4) (ph : BitVec 2) : (s.goto st ph).t5 = s.t5 := rfl
@[simp] theorem State.goto_t6 (s : State) (st : BitVec 4) (ph : BitVec 2) : (s.goto st ph).t6 = s.t6 := rfl
@[simp] theorem State.goto_e0 (s : State) (st : BitVec 4) (ph : BitVec 2) : (s.goto st ph).e0 = s.e0 := rfl
@[simp] theorem State.goto_e1 (s : State) (st : BitVec 4) (ph : BitVec 2) : (s.goto st ph).e1 = s.e1 := rfl
@[simp] theorem State.goto_e2 (s : State) (st : BitVec 4) (ph : BitVec 2) : (s.goto st ph).e2 = s.e2 := rfl
@[simp] theorem State.goto_valid (s : State) (st : BitVec 4) (ph : BitVec 2) : (s.goto st ph).valid = s.valid := rfl
@[simp] theorem State.goto_txbuf (s : State) (st : BitVec 4) (ph : BitVec 2) : (s.goto st ph).txbuf = s.txbuf := rfl
@[simp] theorem State.goto_txlen (s : State) (st : BitVec 4) (ph : BitVec 2) : (s.goto st ph).txlen = s.txlen := rfl
@[simp] theorem State.goto_params (s : State) (st : BitVec 4) (ph : BitVec 2) : (s.goto st ph).params = s.params := rfl
@[simp] theorem State.goto_trace (s : State) (st : BitVec 4) (ph : BitVec 2) : (s.goto st ph).trace = s.trace := rfl
@[simp] theorem State.goto_events (s : State) (st : BitVec 4) (ph : BitVec 2) : (s.goto st ph).events = s.events := rfl
@[simp] theorem State.goto_env (s : State) (st : BitVec 4) (ph : BitVec 2) : (s.goto st ph).env = s.env := rfl
@[simp] theorem State.goto_unitOut (s : State) (st : BitVec 4) (ph : BitVec 2) : (s.goto st ph).unitOut = s.unitOut := rfl
@[simp] theorem State.goto_probe (s : State) (st : BitVec 4) (ph : BitVec 2) : (s.goto st ph).probe = s.probe := rfl
@[simp] theorem State.goto_draws (s : State) (st : BitVec 4) (ph : BitVec 2) : (s.goto st ph).draws = s.draws := rfl

/-! ### State.incSeq -/

@[simp] theorem State.incSeq_state (s : State) : (s.incSeq).state = s.state := rfl
@[simp] theorem State.incSeq_phase (s : State) : (s.incSeq).phase = s.phase := rfl
@[simp] theorem State.incSeq_seq (s : State) : (s.incSeq).seq = s.seq + 1#8 := rfl
@[simp] theorem State.incSeq_cfgRole (s : State) : (s.incSeq).cfgRole = s.cfgRole := rfl
@[simp] theorem State.incSeq_cfgAntDly (s : State) : (s.incSeq).cfgAntDly = s.cfgAntDly := rfl
@[simp] theorem State.incSeq_status (s : State) : (s.incSeq).status = s.status := rfl
@[simp] theorem State.incSeq_t0 (s : State) : (s.incSeq).t0 = s.t0 := rfl
@[simp] theorem State.incSeq_t1 (s : State) : (s.incSeq).t1 = s.t1 := rfl
@[simp] theorem State.incSeq_t2 (s : State) : (s.incSeq).t2 = s.t2 := rfl
@[simp] theorem State.incSeq_t3 (s : State) : (s.incSeq).t3 = s.t3 := rfl
@[simp] theorem State.incSeq_t4 (s : State) : (s.incSeq).t4 = s.t4 := rfl
@[simp] theorem State.incSeq_t5 (s : State) : (s.incSeq).t5 = s.t5 := rfl
@[simp] theorem State.incSeq_t6 (s : State) : (s.incSeq).t6 = s.t6 := rfl
@[simp] theorem State.incSeq_e0 (s : State) : (s.incSeq).e0 = s.e0 := rfl
@[simp] theorem State.incSeq_e1 (s : State) : (s.incSeq).e1 = s.e1 := rfl
@[simp] theorem State.incSeq_e2 (s : State) : (s.incSeq).e2 = s.e2 := rfl
@[simp] theorem State.incSeq_valid (s : State) : (s.incSeq).valid = s.valid := rfl
@[simp] theorem State.incSeq_txbuf (s : State) : (s.incSeq).txbuf = s.txbuf := rfl
@[simp] theorem State.incSeq_txlen (s : State) : (s.incSeq).txlen = s.txlen := rfl
@[simp] theorem State.incSeq_params (s : State) : (s.incSeq).params = s.params := rfl
@[simp] theorem State.incSeq_trace (s : State) : (s.incSeq).trace = s.trace := rfl
@[simp] theorem State.incSeq_events (s : State) : (s.incSeq).events = s.events := rfl
@[simp] theorem State.incSeq_env (s : State) : (s.incSeq).env = s.env := rfl
@[simp] theorem State.incSeq_unitOut (s : State) : (s.incSeq).unitOut = s.unitOut := rfl
@[simp] theorem State.incSeq_probe (s : State) : (s.incSeq).probe = s.probe := rfl
@[simp] theorem State.incSeq_draws (s : State) : (s.incSeq).draws = s.draws := rfl

/-! ### State.writeEmbedded -/

@[simp] theorem State.writeEmbedded_state (s : State) (a b c : U32) : (s.writeEmbedded a b c).state = s.state := rfl
@[simp] theorem State.writeEmbedded_phase (s : State) (a b c : U32) : (s.writeEmbedded a b c).phase = s.phase := rfl
@[simp] theorem State.writeEmbedded_seq (s : State) (a b c : U32) : (s.writeEmbedded a b c).seq = s.seq := rfl
@[simp] theorem State.writeEmbedded_cfgRole (s : State) (a b c : U32) : (s.writeEmbedded a b c).cfgRole = s.cfgRole := rfl
@[simp] theorem State.writeEmbedded_cfgAntDly (s : State) (a b c : U32) : (s.writeEmbedded a b c).cfgAntDly = s.cfgAntDly := rfl
@[simp] theorem State.writeEmbedded_status (s : State) (a b c : U32) : (s.writeEmbedded a b c).status = s.status := rfl
@[simp] theorem State.writeEmbedded_t0 (s : State) (a b c : U32) : (s.writeEmbedded a b c).t0 = s.t0 := rfl
@[simp] theorem State.writeEmbedded_t1 (s : State) (a b c : U32) : (s.writeEmbedded a b c).t1 = s.t1 := rfl
@[simp] theorem State.writeEmbedded_t2 (s : State) (a b c : U32) : (s.writeEmbedded a b c).t2 = s.t2 := rfl
@[simp] theorem State.writeEmbedded_t3 (s : State) (a b c : U32) : (s.writeEmbedded a b c).t3 = s.t3 := rfl
@[simp] theorem State.writeEmbedded_t4 (s : State) (a b c : U32) : (s.writeEmbedded a b c).t4 = s.t4 := rfl
@[simp] theorem State.writeEmbedded_t5 (s : State) (a b c : U32) : (s.writeEmbedded a b c).t5 = s.t5 := rfl
@[simp] theorem State.writeEmbedded_t6 (s : State) (a b c : U32) : (s.writeEmbedded a b c).t6 = s.t6 := rfl
@[simp] theorem State.writeEmbedded_e0 (s : State) (a b c : U32) : (s.writeEmbedded a b c).e0 = a := rfl
@[simp] theorem State.writeEmbedded_e1 (s : State) (a b c : U32) : (s.writeEmbedded a b c).e1 = b := rfl
@[simp] theorem State.writeEmbedded_e2 (s : State) (a b c : U32) : (s.writeEmbedded a b c).e2 = c := rfl
@[simp] theorem State.writeEmbedded_valid (s : State) (a b c : U32) : (s.writeEmbedded a b c).valid = withValid s.valid embeddedIndex := rfl
@[simp] theorem State.writeEmbedded_txbuf (s : State) (a b c : U32) : (s.writeEmbedded a b c).txbuf = s.txbuf := rfl
@[simp] theorem State.writeEmbedded_txlen (s : State) (a b c : U32) : (s.writeEmbedded a b c).txlen = s.txlen := rfl
@[simp] theorem State.writeEmbedded_params (s : State) (a b c : U32) : (s.writeEmbedded a b c).params = s.params := rfl
@[simp] theorem State.writeEmbedded_trace (s : State) (a b c : U32) : (s.writeEmbedded a b c).trace = s.trace := rfl
@[simp] theorem State.writeEmbedded_events (s : State) (a b c : U32) : (s.writeEmbedded a b c).events = s.events := rfl
@[simp] theorem State.writeEmbedded_env (s : State) (a b c : U32) : (s.writeEmbedded a b c).env = s.env := rfl
@[simp] theorem State.writeEmbedded_unitOut (s : State) (a b c : U32) : (s.writeEmbedded a b c).unitOut = s.unitOut := rfl
@[simp] theorem State.writeEmbedded_probe (s : State) (a b c : U32) : (s.writeEmbedded a b c).probe = s.probe := rfl
@[simp] theorem State.writeEmbedded_draws (s : State) (a b c : U32) : (s.writeEmbedded a b c).draws = s.draws := rfl

/-! ### State.clearInitiator -/

@[simp] theorem State.clearInitiator_state (s : State) : (s.clearInitiator).state = s.state := rfl
@[simp] theorem State.clearInitiator_phase (s : State) : (s.clearInitiator).phase = s.phase := rfl
@[simp] theorem State.clearInitiator_seq (s : State) : (s.clearInitiator).seq = s.seq := rfl
@[simp] theorem State.clearInitiator_cfgRole (s : State) : (s.clearInitiator).cfgRole = s.cfgRole := rfl
@[simp] theorem State.clearInitiator_cfgAntDly (s : State) : (s.clearInitiator).cfgAntDly = s.cfgAntDly := rfl
@[simp] theorem State.clearInitiator_status (s : State) : (s.clearInitiator).status = s.status := rfl
@[simp] theorem State.clearInitiator_t0 (s : State) : (s.clearInitiator).t0 = 0#64 := rfl
@[simp] theorem State.clearInitiator_t1 (s : State) : (s.clearInitiator).t1 = 0#64 := rfl
@[simp] theorem State.clearInitiator_t2 (s : State) : (s.clearInitiator).t2 = 0#64 := rfl
@[simp] theorem State.clearInitiator_t3 (s : State) : (s.clearInitiator).t3 = s.t3 := rfl
@[simp] theorem State.clearInitiator_t4 (s : State) : (s.clearInitiator).t4 = s.t4 := rfl
@[simp] theorem State.clearInitiator_t5 (s : State) : (s.clearInitiator).t5 = s.t5 := rfl
@[simp] theorem State.clearInitiator_t6 (s : State) : (s.clearInitiator).t6 = s.t6 := rfl
@[simp] theorem State.clearInitiator_e0 (s : State) : (s.clearInitiator).e0 = s.e0 := rfl
@[simp] theorem State.clearInitiator_e1 (s : State) : (s.clearInitiator).e1 = s.e1 := rfl
@[simp] theorem State.clearInitiator_e2 (s : State) : (s.clearInitiator).e2 = s.e2 := rfl
@[simp] theorem State.clearInitiator_valid (s : State) : (s.clearInitiator).valid = clearValidInitiator s.valid := rfl
@[simp] theorem State.clearInitiator_txbuf (s : State) : (s.clearInitiator).txbuf = s.txbuf := rfl
@[simp] theorem State.clearInitiator_txlen (s : State) : (s.clearInitiator).txlen = s.txlen := rfl
@[simp] theorem State.clearInitiator_params (s : State) : (s.clearInitiator).params = s.params := rfl
@[simp] theorem State.clearInitiator_trace (s : State) : (s.clearInitiator).trace = s.trace := rfl
@[simp] theorem State.clearInitiator_events (s : State) : (s.clearInitiator).events = s.events := rfl
@[simp] theorem State.clearInitiator_env (s : State) : (s.clearInitiator).env = s.env := rfl
@[simp] theorem State.clearInitiator_unitOut (s : State) : (s.clearInitiator).unitOut = s.unitOut := rfl
@[simp] theorem State.clearInitiator_probe (s : State) : (s.clearInitiator).probe = s.probe := rfl
@[simp] theorem State.clearInitiator_draws (s : State) : (s.clearInitiator).draws = s.draws := rfl

/-! ### State.clearResponder -/

@[simp] theorem State.clearResponder_state (s : State) : (s.clearResponder).state = s.state := rfl
@[simp] theorem State.clearResponder_phase (s : State) : (s.clearResponder).phase = s.phase := rfl
@[simp] theorem State.clearResponder_seq (s : State) : (s.clearResponder).seq = s.seq := rfl
@[simp] theorem State.clearResponder_cfgRole (s : State) : (s.clearResponder).cfgRole = s.cfgRole := rfl
@[simp] theorem State.clearResponder_cfgAntDly (s : State) : (s.clearResponder).cfgAntDly = s.cfgAntDly := rfl
@[simp] theorem State.clearResponder_status (s : State) : (s.clearResponder).status = s.status := rfl
@[simp] theorem State.clearResponder_t0 (s : State) : (s.clearResponder).t0 = s.t0 := rfl
@[simp] theorem State.clearResponder_t1 (s : State) : (s.clearResponder).t1 = s.t1 := rfl
@[simp] theorem State.clearResponder_t2 (s : State) : (s.clearResponder).t2 = s.t2 := rfl
@[simp] theorem State.clearResponder_t3 (s : State) : (s.clearResponder).t3 = 0#64 := rfl
@[simp] theorem State.clearResponder_t4 (s : State) : (s.clearResponder).t4 = 0#64 := rfl
@[simp] theorem State.clearResponder_t5 (s : State) : (s.clearResponder).t5 = 0#64 := rfl
@[simp] theorem State.clearResponder_t6 (s : State) : (s.clearResponder).t6 = 0#64 := rfl
@[simp] theorem State.clearResponder_e0 (s : State) : (s.clearResponder).e0 = 0#32 := rfl
@[simp] theorem State.clearResponder_e1 (s : State) : (s.clearResponder).e1 = 0#32 := rfl
@[simp] theorem State.clearResponder_e2 (s : State) : (s.clearResponder).e2 = 0#32 := rfl
@[simp] theorem State.clearResponder_valid (s : State) : (s.clearResponder).valid = clearValidResponder s.valid := rfl
@[simp] theorem State.clearResponder_txbuf (s : State) : (s.clearResponder).txbuf = s.txbuf := rfl
@[simp] theorem State.clearResponder_txlen (s : State) : (s.clearResponder).txlen = s.txlen := rfl
@[simp] theorem State.clearResponder_params (s : State) : (s.clearResponder).params = s.params := rfl
@[simp] theorem State.clearResponder_trace (s : State) : (s.clearResponder).trace = s.trace := rfl
@[simp] theorem State.clearResponder_events (s : State) : (s.clearResponder).events = s.events := rfl
@[simp] theorem State.clearResponder_env (s : State) : (s.clearResponder).env = s.env := rfl
@[simp] theorem State.clearResponder_unitOut (s : State) : (s.clearResponder).unitOut = s.unitOut := rfl
@[simp] theorem State.clearResponder_probe (s : State) : (s.clearResponder).probe = s.probe := rfl
@[simp] theorem State.clearResponder_draws (s : State) : (s.clearResponder).draws = s.draws := rfl

/-! ### State.emit -/

@[simp] theorem State.emit_state (s : State) (c : Command) : (s.emit c).state = s.state := rfl
@[simp] theorem State.emit_phase (s : State) (c : Command) : (s.emit c).phase = s.phase := rfl
@[simp] theorem State.emit_seq (s : State) (c : Command) : (s.emit c).seq = s.seq := rfl
@[simp] theorem State.emit_cfgRole (s : State) (c : Command) : (s.emit c).cfgRole = s.cfgRole := rfl
@[simp] theorem State.emit_cfgAntDly (s : State) (c : Command) : (s.emit c).cfgAntDly = s.cfgAntDly := rfl
@[simp] theorem State.emit_status (s : State) (c : Command) : (s.emit c).status = s.status := rfl
@[simp] theorem State.emit_t0 (s : State) (c : Command) : (s.emit c).t0 = s.t0 := rfl
@[simp] theorem State.emit_t1 (s : State) (c : Command) : (s.emit c).t1 = s.t1 := rfl
@[simp] theorem State.emit_t2 (s : State) (c : Command) : (s.emit c).t2 = s.t2 := rfl
@[simp] theorem State.emit_t3 (s : State) (c : Command) : (s.emit c).t3 = s.t3 := rfl
@[simp] theorem State.emit_t4 (s : State) (c : Command) : (s.emit c).t4 = s.t4 := rfl
@[simp] theorem State.emit_t5 (s : State) (c : Command) : (s.emit c).t5 = s.t5 := rfl
@[simp] theorem State.emit_t6 (s : State) (c : Command) : (s.emit c).t6 = s.t6 := rfl
@[simp] theorem State.emit_e0 (s : State) (c : Command) : (s.emit c).e0 = s.e0 := rfl
@[simp] theorem State.emit_e1 (s : State) (c : Command) : (s.emit c).e1 = s.e1 := rfl
@[simp] theorem State.emit_e2 (s : State) (c : Command) : (s.emit c).e2 = s.e2 := rfl
@[simp] theorem State.emit_valid (s : State) (c : Command) : (s.emit c).valid = s.valid := rfl
@[simp] theorem State.emit_txbuf (s : State) (c : Command) : (s.emit c).txbuf = s.txbuf := rfl
@[simp] theorem State.emit_txlen (s : State) (c : Command) : (s.emit c).txlen = s.txlen := rfl
@[simp] theorem State.emit_params (s : State) (c : Command) : (s.emit c).params = s.params := rfl
@[simp] theorem State.emit_trace (s : State) (c : Command) : (s.emit c).trace = s.trace ++ [.cmd c] := rfl
@[simp] theorem State.emit_events (s : State) (c : Command) : (s.emit c).events = s.events := rfl
@[simp] theorem State.emit_env (s : State) (c : Command) : (s.emit c).env = s.env.accept c := rfl
@[simp] theorem State.emit_unitOut (s : State) (c : Command) : (s.emit c).unitOut = s.unitOut := rfl
@[simp] theorem State.emit_probe (s : State) (c : Command) : (s.emit c).probe = s.probe := rfl
@[simp] theorem State.emit_draws (s : State) (c : Command) : (s.emit c).draws = s.draws := rfl

/-! ### State.putResult -/

@[simp] theorem State.putResult_state (s : State) (r : ResultRecord) : (s.putResult r).state = s.state := rfl
@[simp] theorem State.putResult_phase (s : State) (r : ResultRecord) : (s.putResult r).phase = s.phase := rfl
@[simp] theorem State.putResult_seq (s : State) (r : ResultRecord) : (s.putResult r).seq = s.seq := rfl
@[simp] theorem State.putResult_cfgRole (s : State) (r : ResultRecord) : (s.putResult r).cfgRole = s.cfgRole := rfl
@[simp] theorem State.putResult_cfgAntDly (s : State) (r : ResultRecord) : (s.putResult r).cfgAntDly = s.cfgAntDly := rfl
@[simp] theorem State.putResult_status (s : State) (r : ResultRecord) : (s.putResult r).status = s.status := rfl
@[simp] theorem State.putResult_t0 (s : State) (r : ResultRecord) : (s.putResult r).t0 = s.t0 := rfl
@[simp] theorem State.putResult_t1 (s : State) (r : ResultRecord) : (s.putResult r).t1 = s.t1 := rfl
@[simp] theorem State.putResult_t2 (s : State) (r : ResultRecord) : (s.putResult r).t2 = s.t2 := rfl
@[simp] theorem State.putResult_t3 (s : State) (r : ResultRecord) : (s.putResult r).t3 = s.t3 := rfl
@[simp] theorem State.putResult_t4 (s : State) (r : ResultRecord) : (s.putResult r).t4 = s.t4 := rfl
@[simp] theorem State.putResult_t5 (s : State) (r : ResultRecord) : (s.putResult r).t5 = s.t5 := rfl
@[simp] theorem State.putResult_t6 (s : State) (r : ResultRecord) : (s.putResult r).t6 = s.t6 := rfl
@[simp] theorem State.putResult_e0 (s : State) (r : ResultRecord) : (s.putResult r).e0 = s.e0 := rfl
@[simp] theorem State.putResult_e1 (s : State) (r : ResultRecord) : (s.putResult r).e1 = s.e1 := rfl
@[simp] theorem State.putResult_e2 (s : State) (r : ResultRecord) : (s.putResult r).e2 = s.e2 := rfl
@[simp] theorem State.putResult_valid (s : State) (r : ResultRecord) : (s.putResult r).valid = s.valid := rfl
@[simp] theorem State.putResult_txbuf (s : State) (r : ResultRecord) : (s.putResult r).txbuf = s.txbuf := rfl
@[simp] theorem State.putResult_txlen (s : State) (r : ResultRecord) : (s.putResult r).txlen = s.txlen := rfl
@[simp] theorem State.putResult_params (s : State) (r : ResultRecord) : (s.putResult r).params = s.params := rfl
@[simp] theorem State.putResult_trace (s : State) (r : ResultRecord) : (s.putResult r).trace = s.trace ++ [.res r] := rfl
@[simp] theorem State.putResult_events (s : State) (r : ResultRecord) : (s.putResult r).events = s.events := rfl
@[simp] theorem State.putResult_env (s : State) (r : ResultRecord) : (s.putResult r).env = s.env := rfl
@[simp] theorem State.putResult_unitOut (s : State) (r : ResultRecord) : (s.putResult r).unitOut = s.unitOut := rfl
@[simp] theorem State.putResult_probe (s : State) (r : ResultRecord) : (s.putResult r).probe = s.probe := rfl
@[simp] theorem State.putResult_draws (s : State) (r : ResultRecord) : (s.putResult r).draws = s.draws := rfl

/-! ### State.setLastErr -/

@[simp] theorem State.setLastErr_state (s : State) (k : FailKind) : (s.setLastErr k).state = s.state := rfl
@[simp] theorem State.setLastErr_phase (s : State) (k : FailKind) : (s.setLastErr k).phase = s.phase := rfl
@[simp] theorem State.setLastErr_seq (s : State) (k : FailKind) : (s.setLastErr k).seq = s.seq := rfl
@[simp] theorem State.setLastErr_cfgRole (s : State) (k : FailKind) : (s.setLastErr k).cfgRole = s.cfgRole := rfl
@[simp] theorem State.setLastErr_cfgAntDly (s : State) (k : FailKind) : (s.setLastErr k).cfgAntDly = s.cfgAntDly := rfl
@[simp] theorem State.setLastErr_status (s : State) (k : FailKind) : (s.setLastErr k).status = withLastErr s.status k := rfl
@[simp] theorem State.setLastErr_t0 (s : State) (k : FailKind) : (s.setLastErr k).t0 = s.t0 := rfl
@[simp] theorem State.setLastErr_t1 (s : State) (k : FailKind) : (s.setLastErr k).t1 = s.t1 := rfl
@[simp] theorem State.setLastErr_t2 (s : State) (k : FailKind) : (s.setLastErr k).t2 = s.t2 := rfl
@[simp] theorem State.setLastErr_t3 (s : State) (k : FailKind) : (s.setLastErr k).t3 = s.t3 := rfl
@[simp] theorem State.setLastErr_t4 (s : State) (k : FailKind) : (s.setLastErr k).t4 = s.t4 := rfl
@[simp] theorem State.setLastErr_t5 (s : State) (k : FailKind) : (s.setLastErr k).t5 = s.t5 := rfl
@[simp] theorem State.setLastErr_t6 (s : State) (k : FailKind) : (s.setLastErr k).t6 = s.t6 := rfl
@[simp] theorem State.setLastErr_e0 (s : State) (k : FailKind) : (s.setLastErr k).e0 = s.e0 := rfl
@[simp] theorem State.setLastErr_e1 (s : State) (k : FailKind) : (s.setLastErr k).e1 = s.e1 := rfl
@[simp] theorem State.setLastErr_e2 (s : State) (k : FailKind) : (s.setLastErr k).e2 = s.e2 := rfl
@[simp] theorem State.setLastErr_valid (s : State) (k : FailKind) : (s.setLastErr k).valid = s.valid := rfl
@[simp] theorem State.setLastErr_txbuf (s : State) (k : FailKind) : (s.setLastErr k).txbuf = s.txbuf := rfl
@[simp] theorem State.setLastErr_txlen (s : State) (k : FailKind) : (s.setLastErr k).txlen = s.txlen := rfl
@[simp] theorem State.setLastErr_params (s : State) (k : FailKind) : (s.setLastErr k).params = s.params := rfl
@[simp] theorem State.setLastErr_trace (s : State) (k : FailKind) : (s.setLastErr k).trace = s.trace := rfl
@[simp] theorem State.setLastErr_events (s : State) (k : FailKind) : (s.setLastErr k).events = s.events := rfl
@[simp] theorem State.setLastErr_env (s : State) (k : FailKind) : (s.setLastErr k).env = s.env := rfl
@[simp] theorem State.setLastErr_unitOut (s : State) (k : FailKind) : (s.setLastErr k).unitOut = s.unitOut := rfl
@[simp] theorem State.setLastErr_probe (s : State) (k : FailKind) : (s.setLastErr k).probe = s.probe := rfl
@[simp] theorem State.setLastErr_draws (s : State) (k : FailKind) : (s.setLastErr k).draws = s.draws := rfl

/-! ### State.unexpected -/

@[simp] theorem State.unexpected_state (s : State) : (s.unexpected).state = s.state := rfl
@[simp] theorem State.unexpected_phase (s : State) : (s.unexpected).phase = s.phase := rfl
@[simp] theorem State.unexpected_seq (s : State) : (s.unexpected).seq = s.seq := rfl
@[simp] theorem State.unexpected_cfgRole (s : State) : (s.unexpected).cfgRole = s.cfgRole := rfl
@[simp] theorem State.unexpected_cfgAntDly (s : State) : (s.unexpected).cfgAntDly = s.cfgAntDly := rfl
@[simp] theorem State.unexpected_status (s : State) : (s.unexpected).status = withEvUnexp s.status := rfl
@[simp] theorem State.unexpected_t0 (s : State) : (s.unexpected).t0 = s.t0 := rfl
@[simp] theorem State.unexpected_t1 (s : State) : (s.unexpected).t1 = s.t1 := rfl
@[simp] theorem State.unexpected_t2 (s : State) : (s.unexpected).t2 = s.t2 := rfl
@[simp] theorem State.unexpected_t3 (s : State) : (s.unexpected).t3 = s.t3 := rfl
@[simp] theorem State.unexpected_t4 (s : State) : (s.unexpected).t4 = s.t4 := rfl
@[simp] theorem State.unexpected_t5 (s : State) : (s.unexpected).t5 = s.t5 := rfl
@[simp] theorem State.unexpected_t6 (s : State) : (s.unexpected).t6 = s.t6 := rfl
@[simp] theorem State.unexpected_e0 (s : State) : (s.unexpected).e0 = s.e0 := rfl
@[simp] theorem State.unexpected_e1 (s : State) : (s.unexpected).e1 = s.e1 := rfl
@[simp] theorem State.unexpected_e2 (s : State) : (s.unexpected).e2 = s.e2 := rfl
@[simp] theorem State.unexpected_valid (s : State) : (s.unexpected).valid = s.valid := rfl
@[simp] theorem State.unexpected_txbuf (s : State) : (s.unexpected).txbuf = s.txbuf := rfl
@[simp] theorem State.unexpected_txlen (s : State) : (s.unexpected).txlen = s.txlen := rfl
@[simp] theorem State.unexpected_params (s : State) : (s.unexpected).params = s.params := rfl
@[simp] theorem State.unexpected_trace (s : State) : (s.unexpected).trace = s.trace := rfl
@[simp] theorem State.unexpected_events (s : State) : (s.unexpected).events = s.events := rfl
@[simp] theorem State.unexpected_env (s : State) : (s.unexpected).env = s.env := rfl
@[simp] theorem State.unexpected_unitOut (s : State) : (s.unexpected).unitOut = s.unitOut := rfl
@[simp] theorem State.unexpected_probe (s : State) : (s.unexpected).probe = s.probe := rfl
@[simp] theorem State.unexpected_draws (s : State) : (s.unexpected).draws = s.draws := rfl

/-! ### State.setFault -/

@[simp] theorem State.setFault_state (s : State) : (s.setFault).state = s.state := rfl
@[simp] theorem State.setFault_phase (s : State) : (s.setFault).phase = s.phase := rfl
@[simp] theorem State.setFault_seq (s : State) : (s.setFault).seq = s.seq := rfl
@[simp] theorem State.setFault_cfgRole (s : State) : (s.setFault).cfgRole = s.cfgRole := rfl
@[simp] theorem State.setFault_cfgAntDly (s : State) : (s.setFault).cfgAntDly = s.cfgAntDly := rfl
@[simp] theorem State.setFault_status (s : State) : (s.setFault).status = withFault s.status := rfl
@[simp] theorem State.setFault_t0 (s : State) : (s.setFault).t0 = s.t0 := rfl
@[simp] theorem State.setFault_t1 (s : State) : (s.setFault).t1 = s.t1 := rfl
@[simp] theorem State.setFault_t2 (s : State) : (s.setFault).t2 = s.t2 := rfl
@[simp] theorem State.setFault_t3 (s : State) : (s.setFault).t3 = s.t3 := rfl
@[simp] theorem State.setFault_t4 (s : State) : (s.setFault).t4 = s.t4 := rfl
@[simp] theorem State.setFault_t5 (s : State) : (s.setFault).t5 = s.t5 := rfl
@[simp] theorem State.setFault_t6 (s : State) : (s.setFault).t6 = s.t6 := rfl
@[simp] theorem State.setFault_e0 (s : State) : (s.setFault).e0 = s.e0 := rfl
@[simp] theorem State.setFault_e1 (s : State) : (s.setFault).e1 = s.e1 := rfl
@[simp] theorem State.setFault_e2 (s : State) : (s.setFault).e2 = s.e2 := rfl
@[simp] theorem State.setFault_valid (s : State) : (s.setFault).valid = s.valid := rfl
@[simp] theorem State.setFault_txbuf (s : State) : (s.setFault).txbuf = s.txbuf := rfl
@[simp] theorem State.setFault_txlen (s : State) : (s.setFault).txlen = s.txlen := rfl
@[simp] theorem State.setFault_params (s : State) : (s.setFault).params = s.params := rfl
@[simp] theorem State.setFault_trace (s : State) : (s.setFault).trace = s.trace := rfl
@[simp] theorem State.setFault_events (s : State) : (s.setFault).events = s.events := rfl
@[simp] theorem State.setFault_env (s : State) : (s.setFault).env = s.env := rfl
@[simp] theorem State.setFault_unitOut (s : State) : (s.setFault).unitOut = s.unitOut := rfl
@[simp] theorem State.setFault_probe (s : State) : (s.setFault).probe = s.probe := rfl
@[simp] theorem State.setFault_draws (s : State) : (s.setFault).draws = s.draws := rfl

/-! ### State.answered -/

@[simp] theorem State.answered_state (s : State) (ev : Event) : (s.answered ev).state = s.state := rfl
@[simp] theorem State.answered_phase (s : State) (ev : Event) : (s.answered ev).phase = s.phase := rfl
@[simp] theorem State.answered_seq (s : State) (ev : Event) : (s.answered ev).seq = s.seq := rfl
@[simp] theorem State.answered_cfgRole (s : State) (ev : Event) : (s.answered ev).cfgRole = s.cfgRole := rfl
@[simp] theorem State.answered_cfgAntDly (s : State) (ev : Event) : (s.answered ev).cfgAntDly = s.cfgAntDly := rfl
@[simp] theorem State.answered_status (s : State) (ev : Event) : (s.answered ev).status = s.status := rfl
@[simp] theorem State.answered_t0 (s : State) (ev : Event) : (s.answered ev).t0 = s.t0 := rfl
@[simp] theorem State.answered_t1 (s : State) (ev : Event) : (s.answered ev).t1 = s.t1 := rfl
@[simp] theorem State.answered_t2 (s : State) (ev : Event) : (s.answered ev).t2 = s.t2 := rfl
@[simp] theorem State.answered_t3 (s : State) (ev : Event) : (s.answered ev).t3 = s.t3 := rfl
@[simp] theorem State.answered_t4 (s : State) (ev : Event) : (s.answered ev).t4 = s.t4 := rfl
@[simp] theorem State.answered_t5 (s : State) (ev : Event) : (s.answered ev).t5 = s.t5 := rfl
@[simp] theorem State.answered_t6 (s : State) (ev : Event) : (s.answered ev).t6 = s.t6 := rfl
@[simp] theorem State.answered_e0 (s : State) (ev : Event) : (s.answered ev).e0 = s.e0 := rfl
@[simp] theorem State.answered_e1 (s : State) (ev : Event) : (s.answered ev).e1 = s.e1 := rfl
@[simp] theorem State.answered_e2 (s : State) (ev : Event) : (s.answered ev).e2 = s.e2 := rfl
@[simp] theorem State.answered_valid (s : State) (ev : Event) : (s.answered ev).valid = s.valid := rfl
@[simp] theorem State.answered_txbuf (s : State) (ev : Event) : (s.answered ev).txbuf = s.txbuf := rfl
@[simp] theorem State.answered_txlen (s : State) (ev : Event) : (s.answered ev).txlen = s.txlen := rfl
@[simp] theorem State.answered_params (s : State) (ev : Event) : (s.answered ev).params = s.params := rfl
@[simp] theorem State.answered_trace (s : State) (ev : Event) : (s.answered ev).trace = s.trace := rfl
@[simp] theorem State.answered_events (s : State) (ev : Event) : (s.answered ev).events = s.events := rfl
@[simp] theorem State.answered_env (s : State) (ev : Event) : (s.answered ev).env = s.env.answer ev (Config.driverFlags s.draws) := rfl
@[simp] theorem State.answered_unitOut (s : State) (ev : Event) : (s.answered ev).unitOut = s.unitOut := rfl
@[simp] theorem State.answered_probe (s : State) (ev : Event) : (s.answered ev).probe = s.probe := rfl
@[simp] theorem State.answered_draws (s : State) (ev : Event) : (s.answered ev).draws = s.draws + 1 := rfl

/-! ### State.setUnitOut -/

@[simp] theorem State.setUnitOut_state (s : State) (o : UnitOut) : (s.setUnitOut o).state = s.state := rfl
@[simp] theorem State.setUnitOut_phase (s : State) (o : UnitOut) : (s.setUnitOut o).phase = s.phase := rfl
@[simp] theorem State.setUnitOut_seq (s : State) (o : UnitOut) : (s.setUnitOut o).seq = s.seq := rfl
@[simp] theorem State.setUnitOut_cfgRole (s : State) (o : UnitOut) : (s.setUnitOut o).cfgRole = s.cfgRole := rfl
@[simp] theorem State.setUnitOut_cfgAntDly (s : State) (o : UnitOut) : (s.setUnitOut o).cfgAntDly = s.cfgAntDly := rfl
@[simp] theorem State.setUnitOut_status (s : State) (o : UnitOut) : (s.setUnitOut o).status = s.status := rfl
@[simp] theorem State.setUnitOut_t0 (s : State) (o : UnitOut) : (s.setUnitOut o).t0 = s.t0 := rfl
@[simp] theorem State.setUnitOut_t1 (s : State) (o : UnitOut) : (s.setUnitOut o).t1 = s.t1 := rfl
@[simp] theorem State.setUnitOut_t2 (s : State) (o : UnitOut) : (s.setUnitOut o).t2 = s.t2 := rfl
@[simp] theorem State.setUnitOut_t3 (s : State) (o : UnitOut) : (s.setUnitOut o).t3 = s.t3 := rfl
@[simp] theorem State.setUnitOut_t4 (s : State) (o : UnitOut) : (s.setUnitOut o).t4 = s.t4 := rfl
@[simp] theorem State.setUnitOut_t5 (s : State) (o : UnitOut) : (s.setUnitOut o).t5 = s.t5 := rfl
@[simp] theorem State.setUnitOut_t6 (s : State) (o : UnitOut) : (s.setUnitOut o).t6 = s.t6 := rfl
@[simp] theorem State.setUnitOut_e0 (s : State) (o : UnitOut) : (s.setUnitOut o).e0 = s.e0 := rfl
@[simp] theorem State.setUnitOut_e1 (s : State) (o : UnitOut) : (s.setUnitOut o).e1 = s.e1 := rfl
@[simp] theorem State.setUnitOut_e2 (s : State) (o : UnitOut) : (s.setUnitOut o).e2 = s.e2 := rfl
@[simp] theorem State.setUnitOut_valid (s : State) (o : UnitOut) : (s.setUnitOut o).valid = s.valid := rfl
@[simp] theorem State.setUnitOut_txbuf (s : State) (o : UnitOut) : (s.setUnitOut o).txbuf = s.txbuf := rfl
@[simp] theorem State.setUnitOut_txlen (s : State) (o : UnitOut) : (s.setUnitOut o).txlen = s.txlen := rfl
@[simp] theorem State.setUnitOut_params (s : State) (o : UnitOut) : (s.setUnitOut o).params = s.params := rfl
@[simp] theorem State.setUnitOut_trace (s : State) (o : UnitOut) : (s.setUnitOut o).trace = s.trace := rfl
@[simp] theorem State.setUnitOut_events (s : State) (o : UnitOut) : (s.setUnitOut o).events = s.events := rfl
@[simp] theorem State.setUnitOut_env (s : State) (o : UnitOut) : (s.setUnitOut o).env = s.env := rfl
@[simp] theorem State.setUnitOut_unitOut (s : State) (o : UnitOut) : (s.setUnitOut o).unitOut = o := rfl
@[simp] theorem State.setUnitOut_probe (s : State) (o : UnitOut) : (s.setUnitOut o).probe = s.probe := rfl
@[simp] theorem State.setUnitOut_draws (s : State) (o : UnitOut) : (s.setUnitOut o).draws = s.draws := rfl

/-! ### State.writeT -/

@[simp] theorem State.writeT_state (s : State) (r : TReg) (v : U64) : (s.writeT r v).state = s.state := by cases r <;> rfl
@[simp] theorem State.writeT_phase (s : State) (r : TReg) (v : U64) : (s.writeT r v).phase = s.phase := by cases r <;> rfl
@[simp] theorem State.writeT_seq (s : State) (r : TReg) (v : U64) : (s.writeT r v).seq = s.seq := by cases r <;> rfl
@[simp] theorem State.writeT_cfgRole (s : State) (r : TReg) (v : U64) : (s.writeT r v).cfgRole = s.cfgRole := by cases r <;> rfl
@[simp] theorem State.writeT_cfgAntDly (s : State) (r : TReg) (v : U64) : (s.writeT r v).cfgAntDly = s.cfgAntDly := by cases r <;> rfl
@[simp] theorem State.writeT_status (s : State) (r : TReg) (v : U64) : (s.writeT r v).status = s.status := by cases r <;> rfl
@[simp] theorem State.writeT_t0 (s : State) (r : TReg) (v : U64) : (s.writeT r v).t0 = if r = .t0 then v else s.t0 := by cases r <;> rfl
@[simp] theorem State.writeT_t1 (s : State) (r : TReg) (v : U64) : (s.writeT r v).t1 = if r = .t1 then v else s.t1 := by cases r <;> rfl
@[simp] theorem State.writeT_t2 (s : State) (r : TReg) (v : U64) : (s.writeT r v).t2 = if r = .t2 then v else s.t2 := by cases r <;> rfl
@[simp] theorem State.writeT_t3 (s : State) (r : TReg) (v : U64) : (s.writeT r v).t3 = if r = .t3 then v else s.t3 := by cases r <;> rfl
@[simp] theorem State.writeT_t4 (s : State) (r : TReg) (v : U64) : (s.writeT r v).t4 = if r = .t4 then v else s.t4 := by cases r <;> rfl
@[simp] theorem State.writeT_t5 (s : State) (r : TReg) (v : U64) : (s.writeT r v).t5 = if r = .t5 then v else s.t5 := by cases r <;> rfl
@[simp] theorem State.writeT_t6 (s : State) (r : TReg) (v : U64) : (s.writeT r v).t6 = if r = .t6 then v else s.t6 := by cases r <;> rfl
@[simp] theorem State.writeT_e0 (s : State) (r : TReg) (v : U64) : (s.writeT r v).e0 = s.e0 := by cases r <;> rfl
@[simp] theorem State.writeT_e1 (s : State) (r : TReg) (v : U64) : (s.writeT r v).e1 = s.e1 := by cases r <;> rfl
@[simp] theorem State.writeT_e2 (s : State) (r : TReg) (v : U64) : (s.writeT r v).e2 = s.e2 := by cases r <;> rfl
@[simp] theorem State.writeT_valid (s : State) (r : TReg) (v : U64) : (s.writeT r v).valid = withValid s.valid (tIndex r) := by cases r <;> rfl
@[simp] theorem State.writeT_txbuf (s : State) (r : TReg) (v : U64) : (s.writeT r v).txbuf = s.txbuf := by cases r <;> rfl
@[simp] theorem State.writeT_txlen (s : State) (r : TReg) (v : U64) : (s.writeT r v).txlen = s.txlen := by cases r <;> rfl
@[simp] theorem State.writeT_params (s : State) (r : TReg) (v : U64) : (s.writeT r v).params = s.params := by cases r <;> rfl
@[simp] theorem State.writeT_trace (s : State) (r : TReg) (v : U64) : (s.writeT r v).trace = s.trace := by cases r <;> rfl
@[simp] theorem State.writeT_events (s : State) (r : TReg) (v : U64) : (s.writeT r v).events = s.events := by cases r <;> rfl
@[simp] theorem State.writeT_env (s : State) (r : TReg) (v : U64) : (s.writeT r v).env = s.env := by cases r <;> rfl
@[simp] theorem State.writeT_unitOut (s : State) (r : TReg) (v : U64) : (s.writeT r v).unitOut = s.unitOut := by cases r <;> rfl
@[simp] theorem State.writeT_probe (s : State) (r : TReg) (v : U64) : (s.writeT r v).probe = s.probe := by cases r <;> rfl
@[simp] theorem State.writeT_draws (s : State) (r : TReg) (v : U64) : (s.writeT r v).draws = s.draws := by cases r <;> rfl

/-- Reading a register after a write of one. -/
@[simp] theorem State.readT_writeT (s : State) (r q : TReg) (v : U64) :
    (s.writeT r v).readT q = if q = r then v else s.readT q := by
  cases r <;> cases q <;> rfl

/-! ### State.fail: LAST_ERR, the two driver resets, the restart target (R283) -/

/-- The failure path as one record. -/
theorem State.fail_eq (s : State) (k : FailKind) (st : BitVec 4) :
    s.fail k st = { s with
      status := withLastErr s.status k
      trace := s.trace ++ [.cmd .clearStatus] ++ [.cmd .resetRx]
      env := { s.env with flags := 0#32, rx := none }
      state := st, phase := phIssue } := rfl

@[simp] theorem State.fail_state (s : State) (k : FailKind) (st : BitVec 4) : (s.fail k st).state = st := rfl
@[simp] theorem State.fail_phase (s : State) (k : FailKind) (st : BitVec 4) : (s.fail k st).phase = 0#2 := rfl
@[simp] theorem State.fail_seq (s : State) (k : FailKind) (st : BitVec 4) : (s.fail k st).seq = s.seq := rfl
@[simp] theorem State.fail_cfgRole (s : State) (k : FailKind) (st : BitVec 4) : (s.fail k st).cfgRole = s.cfgRole := rfl
@[simp] theorem State.fail_cfgAntDly (s : State) (k : FailKind) (st : BitVec 4) : (s.fail k st).cfgAntDly = s.cfgAntDly := rfl
@[simp] theorem State.fail_status (s : State) (k : FailKind) (st : BitVec 4) : (s.fail k st).status = withLastErr s.status k := rfl
@[simp] theorem State.fail_t0 (s : State) (k : FailKind) (st : BitVec 4) : (s.fail k st).t0 = s.t0 := rfl
@[simp] theorem State.fail_t1 (s : State) (k : FailKind) (st : BitVec 4) : (s.fail k st).t1 = s.t1 := rfl
@[simp] theorem State.fail_t2 (s : State) (k : FailKind) (st : BitVec 4) : (s.fail k st).t2 = s.t2 := rfl
@[simp] theorem State.fail_t3 (s : State) (k : FailKind) (st : BitVec 4) : (s.fail k st).t3 = s.t3 := rfl
@[simp] theorem State.fail_t4 (s : State) (k : FailKind) (st : BitVec 4) : (s.fail k st).t4 = s.t4 := rfl
@[simp] theorem State.fail_t5 (s : State) (k : FailKind) (st : BitVec 4) : (s.fail k st).t5 = s.t5 := rfl
@[simp] theorem State.fail_t6 (s : State) (k : FailKind) (st : BitVec 4) : (s.fail k st).t6 = s.t6 := rfl
@[simp] theorem State.fail_e0 (s : State) (k : FailKind) (st : BitVec 4) : (s.fail k st).e0 = s.e0 := rfl
@[simp] theorem State.fail_e1 (s : State) (k : FailKind) (st : BitVec 4) : (s.fail k st).e1 = s.e1 := rfl
@[simp] theorem State.fail_e2 (s : State) (k : FailKind) (st : BitVec 4) : (s.fail k st).e2 = s.e2 := rfl
@[simp] theorem State.fail_valid (s : State) (k : FailKind) (st : BitVec 4) : (s.fail k st).valid = s.valid := rfl
@[simp] theorem State.fail_txbuf (s : State) (k : FailKind) (st : BitVec 4) : (s.fail k st).txbuf = s.txbuf := rfl
@[simp] theorem State.fail_txlen (s : State) (k : FailKind) (st : BitVec 4) : (s.fail k st).txlen = s.txlen := rfl
@[simp] theorem State.fail_params (s : State) (k : FailKind) (st : BitVec 4) : (s.fail k st).params = s.params := rfl
@[simp] theorem State.fail_trace (s : State) (k : FailKind) (st : BitVec 4) : (s.fail k st).trace = s.trace ++ [.cmd .clearStatus] ++ [.cmd .resetRx] := rfl
@[simp] theorem State.fail_events (s : State) (k : FailKind) (st : BitVec 4) : (s.fail k st).events = s.events := rfl
@[simp] theorem State.fail_env (s : State) (k : FailKind) (st : BitVec 4) : (s.fail k st).env = (s.env.accept .clearStatus).accept .resetRx := rfl
@[simp] theorem State.fail_unitOut (s : State) (k : FailKind) (st : BitVec 4) : (s.fail k st).unitOut = s.unitOut := rfl
@[simp] theorem State.fail_probe (s : State) (k : FailKind) (st : BitVec 4) : (s.fail k st).probe = s.probe := rfl
@[simp] theorem State.fail_draws (s : State) (k : FailKind) (st : BitVec 4) : (s.fail k st).draws = s.draws := rfl

/-! ### The two outputs of the trace (R16, R48) -/

@[simp] theorem State.emit_commands (s : State) (c : Command) :
    (s.emit c).commands = s.commands ++ [c] := by
  simp [State.commands, State.emit]

@[simp] theorem State.emit_results (s : State) (c : Command) : (s.emit c).results = s.results := by
  simp [State.results, State.emit]

@[simp] theorem State.putResult_commands (s : State) (r : ResultRecord) :
    (s.putResult r).commands = s.commands := by
  simp [State.commands, State.putResult]

@[simp] theorem State.putResult_results (s : State) (r : ResultRecord) :
    (s.putResult r).results = s.results ++ [r] := by
  simp [State.results, State.putResult]

end Sys2Proof.Machine
end

