-- ==== Sys2Proof/Laws/Ops.lean ====
section
/-! SUPPORT. For each shared operation, once, everything it can do. -/

namespace Sys2Proof.Machine

open Sys2Proof

/-! ### Lengths of the frames (R84-R86) -/

@[simp] theorem withSeq_length (t : Template) (seq : Byte) : (t.withSeq seq).length = 10 := by
  simp [Template.withSeq]

@[simp] theorem le16_length (v : U16) : (le16 v).length = 2 := rfl

@[simp] theorem le32_length (v : U32) : (le32 v).length = 4 := rfl

@[simp] theorem le64_length (v : U64) : (le64 v).length = 8 := rfl

@[simp] theorem encodePoll_length (P : Params) (seq : Byte) : (encodePoll P seq).length = 10 := by
  simp [encodePoll, pollFrame]

@[simp] theorem encodeResponse_length (P : Params) (seq : Byte) :
    (encodeResponse P seq).length = 13 := by
  simp [encodeResponse, responseFrame]

@[simp] theorem encodeFinal_length (P : Params) (seq : Byte) (a b c : U64) :
    (encodeFinal P seq a b c).length = 22 := by
  simp [encodeFinal, finalFrame]

/-! ### Sending a frame (R40, R251) -/

/-- TXBUF and TXLEN after a frame that fits. -/
theorem State.loadTx_ok (s : State) {frame : List Byte} (h : frame.length ≤ txbufSize) :
    s.loadTx frame = .ok { s with
      txbuf := Memory.writeFrom s.txbuf 0 frame, txlen := BitVec.ofNat 5 frame.length } := by
  simp [State.loadTx, Memory.store, h]

/-- A frame that fits is always sent: some bytes go out, and the block waits. -/
theorem State.sendFrame_next (s : State) (mode : TxMode) (rxa : Bool) (rxto : RxTimeout) (dly : U32)
    {frame : List Byte} (st : BitVec 4) (h : frame.length ≤ txbufSize) :
    s.sendFrame mode rxa rxto dly frame st = .next (({ s with
      txbuf := Memory.writeFrom s.txbuf 0 frame
      txlen := BitVec.ofNat 5 frame.length }.emit (.tx mode rxa rxto dly
        ((List.range frame.length).map (Memory.read (Memory.writeFrom s.txbuf 0 frame))))).goto
          st phAwait) := by
  simp [State.sendFrame, State.loadTx_ok s h, State.txFrame, Memory.load,
    show frame.length % 32 = frame.length from by simp only [txbufSize] at h; omega, h]

/-- From a canonical TXBUF the bytes that go out are the frame. -/
theorem State.sendFrame_eq (s : State) (mode : TxMode) (rxa : Bool) (rxto : RxTimeout) (dly : U32)
    {frame : List Byte} (st : BitVec 4) (hw : Memory.wf s.txbuf = true)
    (h : frame.length ≤ txbufSize) :
    s.sendFrame mode rxa rxto dly frame st = .next (({ s with
      txbuf := Memory.writeFrom s.txbuf 0 frame
      txlen := BitVec.ofNat 5 frame.length }.emit (.tx mode rxa rxto dly frame)).goto st phAwait) := by
  have hl := Memory.load_writeFrom hw h
  simp only [Memory.load, if_pos h, Except.ok.injEq] at hl
  rw [State.sendFrame_next s mode rxa rxto dly st h, hl]

/-! ### The event port (R96, R260) -/

/-- What taking an event does: the event's bytes leave the port. -/
theorem State.takeEvent_eq_some {s s' : State} {ev : Event} :
    s.takeEvent = some (ev, s') ↔
      ∃ rest, decodeEvent s.events = .ok (ev, rest) ∧ s' = { s with events := rest } := by
  unfold State.takeEvent
  cases h : decodeEvent s.events with
  | error e => simp
  | ok p =>
    obtain ⟨ev', rest⟩ := p
    constructor
    · intro h'
      simp only [Option.some.injEq, Prod.mk.injEq] at h'
      exact ⟨rest, by rw [h'.1], h'.2.symm⟩
    · rintro ⟨rest', h1, h2⟩
      simp only [Except.ok.injEq, Prod.mk.injEq] at h1
      simp [h1.1, h1.2, h2]

/-- An AWAIT or PAUSE action with an event offered. -/
theorem awaitEvent_offered {f : Event → State → Res} {s : State} {ev : Event} {rest : List Byte}
    (h : decodeEvent s.events = .ok (ev, rest)) :
    awaitEvent f s = f ev { s with events := rest } := by
  simp [awaitEvent, State.takeEvent, h]

/-- An AWAIT or PAUSE action with none offered: the block waits as it is. -/
theorem awaitEvent_waits {f : Event → State → Res} {s : State} {e : DecodeError}
    (h : decodeEvent s.events = .error e) : awaitEvent f s = .next s := by
  simp [awaitEvent, State.takeEvent, h]

/-! ### Selection (R33, R90, R290) -/

/-- A block that is not stuck is at a legal pair of its role with FAULT clear. -/
theorem State.stuck_eq_false {s : State} : s.stuck = false ↔
    faultBit s.status = false ∧ (∃ i, decodeSelector s.selector = .ok i) ∧
      s.state.getLsbD 3 = s.cfgRole.getLsbD 0 := by
  simp only [State.stuck, State.legal, Bool.or_eq_false_iff, Bool.not_eq_false', Bool.and_eq_true,
    beq_iff_eq]
  cases decodeSelector s.selector <;> simp

/-- What the block's own fetch finds: the selected action, or the stuck block's step. -/
theorem fetchSelected_cases (s : State) :
    (∃ i, s.stuck = false ∧ decodeSelector s.selector = .ok i ∧ fetchSelected s = .run i s) ∨
    (s.stuck = true ∧ fetchSelected s = .answer (.next s.stuckStep)) := by
  unfold fetchSelected
  cases hs : s.stuck with
  | true => exact .inr ⟨rfl, by simp [State.selected, hs]⟩
  | false =>
    obtain ⟨-, ⟨i, hi⟩, -⟩ := State.stuck_eq_false.1 hs
    exact .inl ⟨i, rfl, hi, by simp [State.selected, hs, hi]⟩

/-- What the fetch finds on the probe port: a row, a selector, a frame of no row, an event of a reserved CODE, a
word rejected without effect. -/
theorem fetchProbe_cases (p : Probe) (s : State) :
    (∃ i r, p.port ≠ .selector ∧ decode s.params p.port p.bytes = .ok (i, r) ∧
      (p.port = .frame → r = []) ∧ fetchProbe p s = .run i s) ∨
    (∃ b bs, p = ⟨.selector, b :: bs⟩ ∧
      fetchProbe p s = fetchSelected (s.goto (b.extractLsb' 2 4) (b.extractLsb' 0 2))) ∨
    (p.port = .frame ∧ (∀ i, decode s.params .frame p.bytes ≠ .ok (i, [])) ∧
      fetchProbe p s = .answer (receiveBytes p.bytes s)) ∨
    (∃ c r, p.port = .event ∧ decodeEvent p.bytes = .ok (.reserved c, r) ∧
      fetchProbe p s = .answer (eventStep (.reserved c) s)) ∨
    ((∃ e, decode s.params p.port p.bytes = .error e) ∧ p.port ≠ .frame ∧
      fetchProbe p s = .answer (.next s)) := by
  obtain ⟨port, bytes⟩ := p
  cases port with
  | selector =>
    cases bytes with
    | nil => exact .inr (.inr (.inr (.inr ⟨⟨_, rfl⟩, by simp, rfl⟩)))
    | cons b bs => exact .inr (.inl ⟨b, bs, rfl, rfl⟩)
  | frame =>
    by_cases h : ∃ i, decodeFrame s.params bytes = .ok (i, [])
    · obtain ⟨i, h⟩ := h
      exact .inl ⟨i, [], by simp, h, fun _ => rfl, by simp [fetchProbe, h]⟩
    · refine .inr (.inr (.inl ⟨rfl, fun i hi => h ⟨i, hi⟩, ?_⟩))
      simp only [fetchProbe]
      split
      · rename_i i hi
        exact absurd ⟨i, hi⟩ h
      · rfl
  | event =>
    cases h : decodeEvent bytes with
    | error e => exact .inr (.inr (.inr (.inr ⟨⟨e, by simp [decode, h, bind, Except.bind]⟩, by simp,
        by simp [fetchProbe, h]⟩)))
    | ok q =>
      obtain ⟨ev, r⟩ := q
      cases hi : ev.toInstr with
      | ok i => exact .inl ⟨i, r, by simp, by simp [decode, h, hi, bind, Except.bind], by simp,
          by simp [fetchProbe, h, hi]⟩
      | error e =>
        cases ev <;> simp [Event.toInstr] at hi
        exact .inr (.inr (.inr (.inl ⟨_, r, rfl, rfl, by simp [fetchProbe, h, Event.toInstr]⟩)))
  | command | result | unitFn =>
    all_goals
      cases h : decode s.params _ bytes with
      | error e => exact .inr (.inr (.inr (.inr ⟨⟨e, rfl⟩, by simp,
          by simp only at h; simp [fetchProbe, h]⟩)))
      | ok q => exact .inl ⟨q.1, q.2, by simp, rfl, by simp,
          by simp only at h; simp [fetchProbe, h]⟩

/-- What a step is (R11): the selected action or the stuck step; with a probe word, its row, the block put at a
selector, a received frame, an unexpected event, a rejected word. -/
theorem step_cases (s : State) :
    (∃ i, s.probe = none ∧ s.stuck = false ∧ decodeSelector s.selector = .ok i ∧ step s = exec i s) ∨
    (s.probe = none ∧ s.stuck = true ∧ step s = .next s.stuckStep) ∨
    ∃ p, s.probe = some p ∧ ∃ s0, s0 = { s with probe := none } ∧
      ((∃ i r, p.port ≠ .selector ∧ decode s.params p.port p.bytes = .ok (i, r) ∧
        (p.port = .frame → r = []) ∧ step s = exec i s0) ∨
      (∃ b bs, p = ⟨.selector, b :: bs⟩ ∧ step s = step (s0.goto (b.extractLsb' 2 4) (b.extractLsb' 0 2))) ∨
      (p.port = .frame ∧ (∀ i, decode s.params .frame p.bytes ≠ .ok (i, [])) ∧
        step s = receiveBytes p.bytes s0) ∨
      (∃ c r, p.port = .event ∧ decodeEvent p.bytes = .ok (.reserved c, r) ∧
        step s = eventStep (.reserved c) s0) ∨
      ((∃ e, decode s.params p.port p.bytes = .error e) ∧ p.port ≠ .frame ∧ step s = .next s0)) := by
  cases hp : s.probe with
  | none =>
    rcases fetchSelected_cases s with ⟨i, h1, h2, h3⟩ | ⟨h1, h2⟩
    · exact .inl ⟨i, rfl, h1, h2, by simp [step, fetch, hp, h3]⟩
    · exact .inr (.inl ⟨rfl, h1, by simp [step, fetch, hp, h2]⟩)
  | some p =>
    refine .inr (.inr ⟨p, rfl, _, rfl, ?_⟩)
    rcases fetchProbe_cases p { s with probe := none } with
      ⟨i, r, h1, h2, h3, h4⟩ | ⟨b, bs, h1, h2⟩ | ⟨h1, h2, h3⟩ | ⟨c, r, h1, h2, h3⟩ | ⟨h1, h2, h3⟩
    · exact .inl ⟨i, r, h1, h2, h3, by simp [step, fetch, hp, h4]⟩
    · exact .inr (.inl ⟨b, bs, h1, by simp [step, fetch, hp, h2]⟩)
    · exact .inr (.inr (.inl ⟨h1, h2, by simp [step, fetch, hp, h3]⟩))
    · exact .inr (.inr (.inr (.inl ⟨c, r, h1, h2, by simp [step, fetch, hp, h3]⟩)))
    · exact .inr (.inr (.inr (.inr ⟨h1, h2, by simp [step, fetch, hp, h3]⟩)))

/-- The 18 legal selectors and their actions (R90). -/
theorem decodeSelector_ok {ss : BitVec 6} {i : Instr} (h : decodeSelector ss = .ok i) :
    (ss = 0x00#6 ∧ i = .iSendPollIssue) ∨ (ss = 0x01#6 ∧ i = .iSendPollAwait) ∨
    (ss = 0x05#6 ∧ i = .iAwaitResponseAwait) ∨ (ss = 0x08#6 ∧ i = .iSendFinalIssue) ∨
    (ss = 0x09#6 ∧ i = .iSendFinalAwait) ∨ (ss = 0x0C#6 ∧ i = .iSendFinalRepeatIssue) ∨
    (ss = 0x0E#6 ∧ i = .iSendFinalRepeatPause) ∨ (ss = 0x0D#6 ∧ i = .iSendFinalRepeatAwait) ∨
    (ss = 0x10#6 ∧ i = .iIdleIssue) ∨ (ss = 0x11#6 ∧ i = .iIdleAwait) ∨
    (ss = 0x20#6 ∧ i = .rAwaitPollIssue) ∨ (ss = 0x21#6 ∧ i = .rAwaitPollAwait) ∨
    (ss = 0x24#6 ∧ i = .rSendResponseIssue) ∨ (ss = 0x25#6 ∧ i = .rSendResponseAwait) ∨
    (ss = 0x29#6 ∧ i = .rAwaitFinalAwait) ∨ (ss = 0x2C#6 ∧ i = .rAwaitFinalRepeatIssue) ∨
    (ss = 0x2D#6 ∧ i = .rAwaitFinalRepeatAwait) ∨ (ss = 0x30#6 ∧ i = .rComputeIssue) := by
  revert h
  unfold decodeSelector
  split <;> rename_i hn <;> intro h <;>
    first
    | (simp only [Except.ok.injEq] at h
       subst h
       have := BitVec.eq_of_toNat_eq (x := ss) (y := BitVec.ofNat 6 ss.toNat) (by simp)
       rw [hn] at this
       simp [this])
    | simp at h

/-- Appended fields come apart again. -/
theorem append_fields (a : BitVec 4) (b : BitVec 2) :
    (a ++ b).extractLsb' 2 4 = a ∧ (a ++ b).extractLsb' 0 2 = b := by
  revert a b; decide

/-- STATE and PHASE are the fields of the selector (R90). -/
theorem State.selector_fields {s : State} {ss : BitVec 6} (h : s.selector = ss) :
    s.state = ss.extractLsb' 2 4 ∧ s.phase = ss.extractLsb' 0 2 := by
  subst h
  exact ⟨(append_fields _ _).1.symm, (append_fields _ _).2.symm⟩

end Sys2Proof.Machine
end

