-- ==== Sys2Proof/Laws/PerInstr.lean ====
section
/-! SUPPORT. Per-instruction statements: the encoding of every instruction carries the match bits of its
row of spec/opcode_table.json under the row's mask (30_encoding.md R101). -/

namespace Sys2Proof.Laws.TableBits

open Sys2Proof

/-- A row of the table from its masks and matches, in stream order. -/
def bytes (mask word : List Byte) : List (Byte × Byte) := mask.zip word

/-- The mask of a frame row: header bytes 0-9, byte 2 masked (R101). -/
def frameMask : List Byte := [0xFF#8, 0xFF#8, 0#8, 0xFF#8, 0xFF#8, 0xFF#8, 0xFF#8, 0xFF#8, 0xFF#8, 0xFF#8]

/-- The mask of a command or event row: bits [3:0] of the word (R101). -/
def wordMask : List Byte := [0x0F#8, 0#8, 0#8, 0#8]

/-- The (mask, match) bytes of each instruction's row. -/
def row : Instr → List (Byte × Byte)
  | .framePoll _ => bytes frameMask [0x41#8, 0x88#8, 0#8, 0xCA#8, 0xDE#8, 0x57#8, 0x41#8, 0x56#8, 0x45#8, 0x21#8]
  | .frameResponse _ _ _ => bytes frameMask [0x41#8, 0x88#8, 0#8, 0xCA#8, 0xDE#8, 0x56#8, 0x45#8, 0x57#8, 0x41#8, 0x10#8]
  | .frameFinal _ _ _ _ => bytes frameMask [0x41#8, 0x88#8, 0#8, 0xCA#8, 0xDE#8, 0x57#8, 0x41#8, 0x56#8, 0x45#8, 0x23#8]
  | .iSendPollIssue => bytes [0x3F#8] [0#8]
  | .iSendPollAwait => bytes [0x3F#8] [0x01#8]
  | .iAwaitResponseAwait => bytes [0x3F#8] [0x05#8]
  | .iSendFinalIssue => bytes [0x3F#8] [0x08#8]
  | .iSendFinalAwait => bytes [0x3F#8] [0x09#8]
  | .iSendFinalRepeatIssue => bytes [0x3F#8] [0x0C#8]
  | .iSendFinalRepeatPause => bytes [0x3F#8] [0x0E#8]
  | .iSendFinalRepeatAwait => bytes [0x3F#8] [0x0D#8]
  | .iIdleIssue => bytes [0x3F#8] [0x10#8]
  | .iIdleAwait => bytes [0x3F#8] [0x11#8]
  | .rAwaitPollIssue => bytes [0x3F#8] [0x20#8]
  | .rAwaitPollAwait => bytes [0x3F#8] [0x21#8]
  | .rSendResponseIssue => bytes [0x3F#8] [0x24#8]
  | .rSendResponseAwait => bytes [0x3F#8] [0x25#8]
  | .rAwaitFinalAwait => bytes [0x3F#8] [0x29#8]
  | .rAwaitFinalRepeatIssue => bytes [0x3F#8] [0x2C#8]
  | .rAwaitFinalRepeatAwait => bytes [0x3F#8] [0x2D#8]
  | .rComputeIssue => bytes [0x3F#8] [0x30#8]
  | .cmdTx _ _ _ _ _ => bytes wordMask [0x01#8, 0#8, 0#8, 0#8]
  | .cmdArmRx _ => bytes wordMask [0x02#8, 0#8, 0#8, 0#8]
  | .cmdResetRx => bytes wordMask [0x03#8, 0#8, 0#8, 0#8]
  | .cmdClearStatus => bytes wordMask [0x04#8, 0#8, 0#8, 0#8]
  | .cmdWait _ => bytes wordMask [0x05#8, 0#8, 0#8, 0#8]
  | .evTxDone _ => bytes wordMask [0x01#8, 0#8, 0#8, 0#8]
  | .evTxErr => bytes wordMask [0x02#8, 0#8, 0#8, 0#8]
  | .evRxGood _ _ => bytes wordMask [0x03#8, 0#8, 0#8, 0#8]
  | .evRxTimeout => bytes wordMask [0x04#8, 0#8, 0#8, 0#8]
  | .evRxErr => bytes wordMask [0x05#8, 0#8, 0#8, 0#8]
  | .evDelayDone => bytes wordMask [0x06#8, 0#8, 0#8, 0#8]
  | .result _ _ _ _ _ _ => bytes [0xFE#8, 0xFF#8, 0xFF#8, 0xFF#8] [0#8, 0#8, 0#8, 0#8]
  | .unitEncodePoll _ => bytes [0xFF#8] [0x01#8]
  | .unitEncodeResponse _ => bytes [0xFF#8] [0x02#8]
  | .unitEncodeFinal _ _ _ _ => bytes [0xFF#8] [0x03#8]
  | .unitDecodeFinalTimestamps _ => bytes [0xFF#8] [0x04#8]
  | .unitMatchesType _ _ => bytes [0xFF#8] [0x05#8]
  | .unitDecode32Le _ _ _ _ => bytes [0xFF#8] [0x06#8]
  | .unitEncode32Le _ => bytes [0xFF#8] [0x07#8]
  | .unitWiden40To64 _ => bytes [0xFF#8] [0x08#8]
  | .unitNarrowTo32 _ => bytes [0xFF#8] [0x09#8]
  | .unitSub32 _ _ => bytes [0xFF#8] [0x0A#8]
  | .unitAlignDelayedTx _ => bytes [0xFF#8] [0x0B#8]
  | .unitPredictFinalTx _ _ => bytes [0xFF#8] [0x0C#8]
  | .unitRangingIntervals _ _ _ _ _ _ => bytes [0xFF#8] [0x0D#8]
  | .unitTofDeviceUnits _ _ _ _ => bytes [0xFF#8] [0x0E#8]
  | .unitTimeOfFlight _ => bytes [0xFF#8] [0x0F#8]
  | .unitDistance _ => bytes [0xFF#8] [0x10#8]

/-- Each byte of the stream has the match bits of the row's byte; the row is no longer than the stream. -/
def carries : List (Byte × Byte) → List Byte → Bool
  | [], _ => true
  | _ :: _, [] => false
  | (m, v) :: row, b :: bs => b &&& m == v && carries row bs

/-- The encoding of the instruction under the default templates carries its row's bits. -/
def Statement (i : Instr) : Prop := carries (row i) (encode Params.default i) = true

/-- A stream that begins with a word carries a word row when the word does. -/
theorem carries_le32 {w : U32} {v : Byte} (h : w.extractLsb' 0 8 &&& 0x0F#8 = v) (rest : List Byte) :
    carries (bytes wordMask [v, 0#8, 0#8, 0#8]) (le32 w ++ rest) = true := by
  simp [carries, bytes, wordMask, le32, h]

/-- A byte masked to its low four bits is them. -/
theorem low_nibble (w : U32) : w.extractLsb' 0 8 &&& 0x0F#8 = (w.extractLsb' 0 4).setWidth 8 := by
  apply BitVec.eq_of_getLsbD_eq
  intro i hi
  interval_cases i <;> simp

/-- The low byte of a command word under the table's mask. -/
theorem packCommand_bits (op : BitVec 4) (mode rxa : BitVec 1) (rxto dsel : BitVec 2) (len : BitVec 8) :
    (packCommand op mode rxa rxto dsel len).extractLsb' 0 8 &&& 0x0F#8 = op.setWidth 8 := by
  rw [low_nibble, packCommand_op]

/-- The low byte of an event word under the table's mask. -/
theorem packEvent_bits (code : BitVec 4) (len : BitVec 8) :
    (packEvent code len).extractLsb' 0 8 &&& 0x0F#8 = code.setWidth 8 := by
  rw [low_nibble, packEvent_code]

theorem framePoll (seq : Byte) : Statement (.framePoll seq) := by
  simp [Statement, row, bytes, frameMask, encode, carries, pollFrame, Template.withSeq, seqIdx, Params.default]

theorem frameResponse (seq : Byte) (actCode : Byte) (actParam : U16) : Statement (.frameResponse seq actCode actParam) := by
  simp [Statement, row, bytes, frameMask, encode, carries, responseFrame, Template.withSeq, seqIdx, Params.default]

theorem frameFinal (seq : Byte) (pollTx : U32) (respRx : U32) (finalTx : U32) : Statement (.frameFinal seq pollTx respRx finalTx) := by
  simp [Statement, row, bytes, frameMask, encode, carries, finalFrame, Template.withSeq, seqIdx, Params.default]

theorem iSendPollIssue : Statement .iSendPollIssue := by
  rfl

theorem iSendPollAwait : Statement .iSendPollAwait := by
  rfl

theorem iAwaitResponseAwait : Statement .iAwaitResponseAwait := by
  rfl

theorem iSendFinalIssue : Statement .iSendFinalIssue := by
  rfl

theorem iSendFinalAwait : Statement .iSendFinalAwait := by
  rfl

theorem iSendFinalRepeatIssue : Statement .iSendFinalRepeatIssue := by
  rfl

theorem iSendFinalRepeatPause : Statement .iSendFinalRepeatPause := by
  rfl

theorem iSendFinalRepeatAwait : Statement .iSendFinalRepeatAwait := by
  rfl

theorem iIdleIssue : Statement .iIdleIssue := by
  rfl

theorem iIdleAwait : Statement .iIdleAwait := by
  rfl

theorem rAwaitPollIssue : Statement .rAwaitPollIssue := by
  rfl

theorem rAwaitPollAwait : Statement .rAwaitPollAwait := by
  rfl

theorem rSendResponseIssue : Statement .rSendResponseIssue := by
  rfl

theorem rSendResponseAwait : Statement .rSendResponseAwait := by
  rfl

theorem rAwaitFinalAwait : Statement .rAwaitFinalAwait := by
  rfl

theorem rAwaitFinalRepeatIssue : Statement .rAwaitFinalRepeatIssue := by
  rfl

theorem rAwaitFinalRepeatAwait : Statement .rAwaitFinalRepeatAwait := by
  rfl

theorem rComputeIssue : Statement .rComputeIssue := by
  rfl

theorem cmdTx (mode : TxMode) (rxa : Bool) (rxto : RxTimeout) (dly : U32) (data : List Byte) : Statement (.cmdTx mode rxa rxto dly data) := by
  exact carries_le32 (packCommand_bits _ _ _ _ _ _) _

theorem cmdArmRx (rxto : RxTimeout) : Statement (.cmdArmRx rxto) := by
  exact carries_le32 (packCommand_bits _ _ _ _ _ _) _

theorem cmdResetRx : Statement .cmdResetRx := by
  rfl

theorem cmdClearStatus : Statement .cmdClearStatus := by
  rfl

theorem cmdWait (dsel : DelaySel) : Statement (.cmdWait dsel) := by
  exact carries_le32 (packCommand_bits _ _ _ _ _ _) _

theorem evTxDone (ts : TsBytes) : Statement (.evTxDone ts) := by
  exact carries_le32 (packEvent_bits _ _) _

theorem evTxErr : Statement .evTxErr := by
  rfl

theorem evRxGood (ts : TsBytes) (data : List Byte) : Statement (.evRxGood ts data) := by
  exact carries_le32 (packEvent_bits _ _) _

theorem evRxTimeout : Statement .evRxTimeout := by
  rfl

theorem evRxErr : Statement .evRxErr := by
  rfl

theorem evDelayDone : Statement .evDelayDone := by
  rfl

theorem result (degen : Bool) (tof : U64) (ra : U32) (rb : U32) (da : U32) (db : U32) : Statement (.result degen tof ra rb da db) := by
  cases degen <;> simp [Statement, row, bytes, encode, encodeResult, le32, carries]

theorem unitEncodePoll (seq : Byte) : Statement (.unitEncodePoll seq) := by
  rfl

theorem unitEncodeResponse (seq : Byte) : Statement (.unitEncodeResponse seq) := by
  rfl

theorem unitEncodeFinal (seq : Byte) (pollTx : U64) (respRx : U64) (finalTx : U64) : Statement (.unitEncodeFinal seq pollTx respRx finalTx) := by
  rfl

theorem unitDecodeFinalTimestamps (f : List Byte) : Statement (.unitDecodeFinalTimestamps f) := by
  rfl

theorem unitMatchesType (f : List Byte) (t : FrameType) : Statement (.unitMatchesType f t) := by
  rfl

theorem unitDecode32Le (b0 : Byte) (b1 : Byte) (b2 : Byte) (b3 : Byte) : Statement (.unitDecode32Le b0 b1 b2 b3) := by
  rfl

theorem unitEncode32Le (v : U32) : Statement (.unitEncode32Le v) := by
  rfl

theorem unitWiden40To64 (b : TsBytes) : Statement (.unitWiden40To64 b) := by
  rfl

theorem unitNarrowTo32 (t : U64) : Statement (.unitNarrowTo32 t) := by
  rfl

theorem unitSub32 (x : U32) (y : U32) : Statement (.unitSub32 x y) := by
  rfl

theorem unitAlignDelayedTx (t : U64) : Statement (.unitAlignDelayedTx t) := by
  rfl

theorem unitPredictFinalTx (a : U32) (ant : U16) : Statement (.unitPredictFinalTx a ant) := by
  rfl

theorem unitRangingIntervals (pt : U32) (rr : U32) (ft : U32) (prx : U32) (rtx : U32) (frx : U32) : Statement (.unitRangingIntervals pt rr ft prx rtx frx) := by
  rfl

theorem unitTofDeviceUnits (ra : U32) (rb : U32) (da : U32) (db : U32) : Statement (.unitTofDeviceUnits ra rb da db) := by
  rfl

theorem unitTimeOfFlight (tof : U64) : Statement (.unitTimeOfFlight tof) := by
  rfl

theorem unitDistance (tof : U64) : Statement (.unitDistance tof) := by
  rfl

end Sys2Proof.Laws.TableBits
end

