-- ==== Sys2Proof/Tests/Slice0.lean ====
section
/-! SUPPORT. Own tests. Expected values are the vectors V-* of spec/95_test_vectors.md or are worked out by
hand from the rule named. The last section shows for each statement a state that meets its hypotheses. -/

namespace Sys2Proof.Tests

open Sys2Proof Sys2Proof.Machine

/-- A state of a role at a selector, with SEQ and VALID, under P. -/
def at' (P : Params) (ss : BitVec 6) (seq valid : BitVec 8) : State :=
  { State.resetWith { P with role := ss.extractLsb' 5 1 } with
    state := ss.extractLsb' 2 4, phase := ss.extractLsb' 0 2, seq := seq, valid := valid }

/-- The same under the default parameters. -/
def at0 (ss : BitVec 6) (seq valid : BitVec 8) : State := at' Params.default ss seq valid

/-- The defaults with LEN_CHECK = HEADER_ONLY. -/
def headerOnly : Params := { Params.default with lenCheck := .headerOnly }

/-- The state with one event offered at the port. -/
def offer (s : State) (ev : Event) : State := { s with events := encodeEvent ev }

/-- A 40-bit time as event bytes. -/
def ts (v : BitVec 40) : TsBytes := TsBytes.ofTimestamp v

/-- What a test looks at in a next state. -/
def after {α : Type} (r : Host.Outcome State Fault Refusal) (f : State → α) : Option α :=
  match r with
  | .next s => some (f s)
  | _ => none

/-- The output of a unit function. -/
def out (i : Instr) : Option UnitOut := after (exec i (at0 0x00#6 0#8 0#8)) State.unitOut

/-- Selector, SEQ, STATUS and what was emitted. -/
def view (s : State) : BitVec 6 × BitVec 8 × BitVec 8 × List Output := (s.selector, s.seq, s.status, s.trace)

/-! ### WellFormed: one ill-formed term for each check -/

theorem test_wf_tx_length (f : List Byte) (h : f.length = 256) :
    Instr.wf (.cmdTx .immediate false .noTimeout 0#32 f) = false := by
  simp [Instr.wf, Command.wf, maxLen, h]

theorem test_wf_tx_rxto_without_rxa :
    Instr.wf (.cmdTx .immediate false .resp 0#32 []) = false := by decide

theorem test_wf_rx_good_length (f : List Byte) (h : f.length = 256) :
    Instr.wf (.evRxGood (ts 0#40) f) = false := by
  simp [Instr.wf, maxLen, h]

theorem test_wf_decode_final_length (f : List Byte) (h : f.length = 256) :
    Instr.wf (.unitDecodeFinalTimestamps f) = false := by
  simp [Instr.wf, maxLen, h]

theorem test_wf_matches_length (f : List Byte) (h : f.length = 256) :
    Instr.wf (.unitMatchesType f .poll) = false := by
  simp [Instr.wf, maxLen, h]

theorem test_wf_longest_carried (f : List Byte) (h : f.length = 255) :
    Instr.wf (.evRxGood (ts 0#40) f) = true := by
  simp [Instr.wf, maxLen, h]

/-- A template with its sequence byte set. -/
def badTemplate : Template := #v[0x41#8, 0x88#8, 0x01#8, 0xCA#8, 0xDE#8, 0x57#8, 0x41#8, 0x56#8, 0x45#8, 0x24#8]

theorem test_wf_params_seq_byte_poll :
    Params.wf { Params.default with hdrPoll := badTemplate } = false := by decide

theorem test_wf_params_seq_byte_resp :
    Params.wf { Params.default with hdrResp := badTemplate } = false := by decide

theorem test_wf_params_seq_byte_final :
    Params.wf { Params.default with hdrFinal := badTemplate } = false := by decide

theorem test_wf_params_poll_resp :
    Params.wf { Params.default with hdrResp := Params.default.hdrPoll } = false := by decide

theorem test_wf_params_poll_final :
    Params.wf { Params.default with hdrFinal := Params.default.hdrPoll } = false := by decide

theorem test_wf_params_resp_final :
    Params.wf { Params.default with hdrFinal := Params.default.hdrResp } = false := by decide

theorem test_wf_params_default :
    Params.wf Params.default = true ∧ Params.wf headerOnly = true := by decide

/-! ### Decoding: a word of every constructor, written out from the spec's encoding -/

/-- The instruction at the head of a stream, nothing left over. -/
def reads (p : Port) (bs : List Byte) (i : Instr) : Prop := decode Params.default p bs = .ok (i, [])

/-- V-C2 -/
theorem test_decode_frame_poll :
    reads .frame [0x41#8, 0x88#8, 0xFF#8, 0xCA#8, 0xDE#8, 0x57#8, 0x41#8, 0x56#8, 0x45#8, 0x21#8]
      (.framePoll 0xFF#8) := by
  unfold reads; decide

/-- V-C3, V-C4 -/
theorem test_decode_frame_response :
    reads .frame [0x41#8, 0x88#8, 0x07#8, 0xCA#8, 0xDE#8, 0x56#8, 0x45#8, 0x57#8, 0x41#8, 0x10#8, 0x5A#8, 0x34#8, 0x12#8]
      (.frameResponse 0x07#8 0x5A#8 0x1234#16) := by
  unfold reads; decide

/-- V-C5 -/
theorem test_decode_frame_final :
    reads .frame [0x41#8, 0x88#8, 0x12#8, 0xCA#8, 0xDE#8, 0x57#8, 0x41#8, 0x56#8, 0x45#8, 0x23#8, 0x44#8, 0x33#8, 0x22#8, 0x11#8, 0x88#8, 0x77#8, 0x66#8, 0x55#8, 0xCC#8, 0xBB#8, 0xAA#8, 0x99#8]
      (.frameFinal 0x12#8 0x11223344#32 0x55667788#32 0x99AABBCC#32) := by
  unfold reads; decide

/-- R90, all 18 rows. -/
theorem test_decode_selectors : ∀ e ∈ ([
    (0x00#8, .iSendPollIssue),
    (0x01#8, .iSendPollAwait),
    (0x05#8, .iAwaitResponseAwait),
    (0x08#8, .iSendFinalIssue),
    (0x09#8, .iSendFinalAwait),
    (0x0C#8, .iSendFinalRepeatIssue),
    (0x0E#8, .iSendFinalRepeatPause),
    (0x0D#8, .iSendFinalRepeatAwait),
    (0x10#8, .iIdleIssue),
    (0x11#8, .iIdleAwait),
    (0x20#8, .rAwaitPollIssue),
    (0x21#8, .rAwaitPollAwait),
    (0x24#8, .rSendResponseIssue),
    (0x25#8, .rSendResponseAwait),
    (0x29#8, .rAwaitFinalAwait),
    (0x2C#8, .rAwaitFinalRepeatIssue),
    (0x2D#8, .rAwaitFinalRepeatAwait),
    (0x30#8, .rComputeIssue)] : List (Byte × Instr)),
    decode Params.default .selector [e.1] = .ok (e.2, []) := by decide

/-- R91, R92 (V-E2, V-E5 with a two-byte frame) -/
theorem test_decode_cmd_tx :
    reads .command [0x11#8, 0x00#8, 0x02#8, 0x00#8, 0x00#8, 0x21#8, 0x1C#8, 0x00#8, 0xAA#8, 0xBB#8]
      (.cmdTx .delayed false .noTimeout 0x001C2100#32 [0xAA#8, 0xBB#8]) := by
  unfold reads; decide

/-- V-E3, P2 -/
theorem test_decode_cmd_tx_response :
    reads .command [0xA1#8, 0x00#8, 0x0D#8, 0x00#8, 0x00#8, 0x00#8, 0x00#8, 0x00#8, 0x41#8, 0x88#8, 0x00#8, 0xCA#8, 0xDE#8, 0x56#8, 0x45#8, 0x57#8, 0x41#8, 0x10#8, 0x02#8, 0x00#8, 0x00#8]
      (.cmdTx .immediate true .final 0#32 [0x41#8, 0x88#8, 0x00#8, 0xCA#8, 0xDE#8, 0x56#8, 0x45#8, 0x57#8, 0x41#8, 0x10#8, 0x02#8, 0x00#8, 0x00#8]) := by
  unfold reads; decide

/-- R91, RXTO = 2 -/
theorem test_decode_cmd_arm_rx :
    reads .command [0x82#8, 0x00#8, 0x00#8, 0x00#8]
      (.cmdArmRx .final) := by
  unfold reads; decide

/-- V-E4 -/
theorem test_decode_cmd_reset_rx :
    reads .command [0x03#8, 0x00#8, 0x00#8, 0x00#8]
      (.cmdResetRx) := by
  unfold reads; decide

/-- V-E4 -/
theorem test_decode_cmd_clear_status :
    reads .command [0x04#8, 0x00#8, 0x00#8, 0x00#8]
      (.cmdClearStatus) := by
  unfold reads; decide

/-- V-E4 -/
theorem test_decode_cmd_wait :
    reads .command [0x05#8, 0x01#8, 0x00#8, 0x00#8]
      (.cmdWait .finalRepeatPause) := by
  unfold reads; decide

/-- V-E6, V-E9: the ignored bits -/
theorem test_decode_ev_tx_done :
    reads .event [0xF1#8, 0x00#8, 0xAB#8, 0xCD#8, 0x9C#8, 0xFF#8, 0x04#8, 0x30#8, 0x00#8]
      (.evTxDone ⟨0x9C#8, 0xFF#8, 0x04#8, 0x30#8, 0x00#8⟩) := by
  unfold reads; decide

/-- V-E11 -/
theorem test_decode_ev_tx_err :
    reads .event [0x02#8, 0x00#8, 0x00#8, 0x00#8]
      (.evTxErr) := by
  unfold reads; decide

/-- V-E7 with a two-byte frame -/
theorem test_decode_ev_rx_good :
    reads .event [0x03#8, 0x02#8, 0x00#8, 0x00#8, 0x00#8, 0x00#8, 0x05#8, 0x10#8, 0x00#8, 0xAA#8, 0xBB#8]
      (.evRxGood ⟨0x00#8, 0x00#8, 0x05#8, 0x10#8, 0x00#8⟩ [0xAA#8, 0xBB#8]) := by
  unfold reads; decide

/-- V-E11 -/
theorem test_decode_ev_rx_timeout :
    reads .event [0x04#8, 0x00#8, 0x00#8, 0x00#8]
      (.evRxTimeout) := by
  unfold reads; decide

/-- V-E11 -/
theorem test_decode_ev_rx_err :
    reads .event [0x05#8, 0x00#8, 0x00#8, 0x00#8]
      (.evRxErr) := by
  unfold reads; decide

/-- V-E11 -/
theorem test_decode_ev_delay_done :
    reads .event [0x06#8, 0x00#8, 0x00#8, 0x00#8]
      (.evDelayDone) := by
  unfold reads; decide

/-- V-E12 -/
theorem test_decode_result :
    reads .result [0x00#8, 0x00#8, 0x00#8, 0x00#8, 0x2D#8, 0x02#8, 0x00#8, 0x00#8, 0x00#8, 0x00#8, 0x00#8, 0x00#8, 0x00#8, 0x00#8, 0x05#8, 0x00#8, 0xC8#8, 0x00#8, 0x25#8, 0x0C#8, 0x00#8, 0x50#8, 0x1C#8, 0x0C#8, 0x38#8, 0xFF#8, 0x04#8, 0x00#8]
      (.result false 557#64 327680#32 203751624#32 203182080#32 327480#32) := by
  unfold reads; decide

/-- R102, all 16 ids; the operand bytes of log 10. -/
theorem test_decode_units : ∀ e ∈ ([
    ([0x01#8, 0x05#8], .unitEncodePoll 0x05#8),
    ([0x02#8, 0x07#8], .unitEncodeResponse 0x07#8),
    ([0x03#8, 0x12#8, 0x44#8, 0x33#8, 0x22#8, 0x11#8, 0x01#8, 0x00#8, 0x00#8, 0x00#8, 0x88#8, 0x77#8, 0x66#8, 0x55#8, 0x00#8, 0x00#8, 0x00#8, 0x00#8, 0xCC#8, 0xBB#8, 0xAA#8, 0x99#8, 0x00#8, 0x00#8, 0x00#8, 0x80#8], .unitEncodeFinal 0x12#8 0x0000000111223344#64 0x55667788#64 0x8000000099AABBCC#64),
    ([0x04#8, 0x02#8, 0xAA#8, 0xBB#8], .unitDecodeFinalTimestamps [0xAA#8, 0xBB#8]),
    ([0x05#8, 0x01#8, 0xAA#8, 0x02#8], .unitMatchesType [0xAA#8] .final),
    ([0x06#8, 0x04#8, 0x03#8, 0x02#8, 0x01#8], .unitDecode32Le 0x04#8 0x03#8 0x02#8 0x01#8),
    ([0x07#8, 0x04#8, 0x03#8, 0x02#8, 0x01#8], .unitEncode32Le 0x01020304#32),
    ([0x08#8, 0x01#8, 0x02#8, 0x03#8, 0x04#8, 0x05#8], .unitWiden40To64 ⟨0x01#8, 0x02#8, 0x03#8, 0x04#8, 0x05#8⟩),
    ([0x09#8, 0x78#8, 0x56#8, 0x34#8, 0x12#8, 0xFF#8, 0x00#8, 0x00#8, 0x00#8], .unitNarrowTo32 0x000000FF12345678#64),
    ([0x0A#8, 0x10#8, 0x00#8, 0x00#8, 0x00#8, 0xF0#8, 0xFF#8, 0xFF#8, 0xFF#8], .unitSub32 0x00000010#32 0xFFFFFFF0#32),
    ([0x0B#8, 0x9A#8, 0x78#8, 0x56#8, 0x34#8, 0x12#8, 0x00#8, 0x00#8, 0x00#8], .unitAlignDelayedTx 0x000000123456789A#64),
    ([0x0C#8, 0x00#8, 0x21#8, 0x1C#8, 0x00#8, 0x34#8, 0x40#8], .unitPredictFinalTx 0x001C2100#32 0x4034#16),
    ([0x0D#8, 0x01#8, 0x00#8, 0x00#8, 0x00#8, 0x02#8, 0x00#8, 0x00#8, 0x00#8, 0x03#8, 0x00#8, 0x00#8, 0x00#8, 0x04#8, 0x00#8, 0x00#8, 0x00#8, 0x05#8, 0x00#8, 0x00#8, 0x00#8, 0x06#8, 0x00#8, 0x00#8, 0x00#8], .unitRangingIntervals 1#32 2#32 3#32 4#32 5#32 6#32),
    ([0x0E#8, 0x0A#8, 0x00#8, 0x00#8, 0x00#8, 0x03#8, 0x00#8, 0x00#8, 0x00#8, 0x01#8, 0x00#8, 0x00#8, 0x00#8, 0x02#8, 0x00#8, 0x00#8, 0x00#8], .unitTofDeviceUnits 10#32 3#32 1#32 2#32),
    ([0x0F#8, 0xFC#8, 0xFF#8, 0xFF#8, 0xFF#8, 0xFF#8, 0xFF#8, 0xFF#8, 0xFF#8], .unitTimeOfFlight 0xFFFFFFFFFFFFFFFC#64),
    ([0x10#8, 0x64#8, 0x00#8, 0x00#8, 0x00#8, 0x00#8, 0x00#8, 0x00#8, 0x00#8], .unitDistance 100#64)] : List (List Byte × Instr)),
    decode Params.default .unitFn e.1 = .ok (e.2, []) := by decide

/-- What the decoder refuses, by name (R88, R90, R91, R95, R97, R98, I15). -/
theorem test_decode_refuses : ∀ e ∈ ([
    (.frame, [0x41#8, 0x88#8, 0x00#8, 0xCA#8, 0xDE#8, 0x57#8, 0x41#8, 0x56#8, 0x45#8, 0x22#8], .unknownFrame),
    (.selector, [0x02#8], .reservedSelector),
    (.selector, [0x42#8], .reservedSelector),
    (.command, [0x06#8, 0x00#8, 0x00#8, 0x00#8], .reservedOp),
    (.command, [0xC2#8, 0x00#8, 0x00#8, 0x00#8], .reservedRxto),
    (.command, [0x05#8, 0x02#8, 0x00#8, 0x00#8], .reservedDsel),
    (.command, [0x03#8, 0x04#8, 0x00#8, 0x00#8], .reservedBits),
    (.command, [0x03#8, 0x00#8, 0x01#8, 0x00#8], .unusedField),
    (.command, [0x41#8, 0x00#8, 0x00#8, 0x00#8, 0x00#8, 0x00#8, 0x00#8, 0x00#8], .unusedField),
    (.event, [0x07#8, 0x00#8, 0x00#8, 0x00#8], .reservedEvent),
    (.result, [0x02#8, 0x00#8, 0x00#8, 0x00#8], .reservedResult),
    (.unitFn, [0x11#8], .unknownUnit),
    (.unitFn, [0x05#8, 0x00#8, 0x03#8], .badOperand),
    (.event, [0x01#8, 0x00#8], .truncated)] : List (Port × List Byte × DecodeError)),
    decode Params.default e.1 e.2.1 = .error e.2.2 := by decide

/-- The first Final of P1 as a stream (V-E5), and the result of V-R15 (V-E13). -/
theorem test_encode_streams :
    (encode Params.default (.cmdTx .immediate false .noTimeout 0x001C2100#32
      (List.replicate 22 0xEE#8))).take 9 = [0x01#8, 0x00#8, 0x16#8, 0x00#8, 0x00#8, 0x21#8, 0x1C#8, 0x00#8, 0xEE#8] ∧
    encode Params.default (.result false 0xFFFFFFFF80000001#64 0#32 0#32 0xFFFFFFFF#32 0xFFFFFFFF#32) =
      [0x00#8, 0x00#8, 0x00#8, 0x00#8, 0x01#8, 0x00#8, 0x00#8, 0x80#8, 0xFF#8, 0xFF#8, 0xFF#8, 0xFF#8, 0x00#8, 0x00#8, 0x00#8, 0x00#8, 0x00#8, 0x00#8, 0x00#8, 0x00#8, 0xFF#8, 0xFF#8, 0xFF#8, 0xFF#8, 0xFF#8, 0xFF#8, 0xFF#8, 0xFF#8] := by decide

/-- Table words as the host numbers them (log 9): a selector, an event, a command, a frame, a unit id. -/
theorem test_table_words :
    decodeTableWord 8 0x0E = some .iSendFinalRepeatPause ∧
    decodeTableWord 8 0x0F = some (.unitTimeOfFlight 0#64) ∧
    decodeTableWord 32 0x6 = some .evDelayDone ∧
    decodeTableWord 32 0x105 = some .evRxErr ∧
    decodeTableWord 80 0x2145564157DECA058841 = some (.framePoll 0x05#8) ∧
    decodeTableWord 8 0x3F = none := by decide

/-! ### The units -/

/-- V-C2 -/
theorem test_unit_encode_poll :
    out (.unitEncodePoll 0xFF#8) = some (.bytes [0x41#8, 0x88#8, 0xFF#8, 0xCA#8, 0xDE#8, 0x57#8, 0x41#8, 0x56#8, 0x45#8, 0x21#8]) := by decide

/-- V-C3 -/
theorem test_unit_encode_response :
    out (.unitEncodeResponse 0x07#8) = some (.bytes [0x41#8, 0x88#8, 0x07#8, 0xCA#8, 0xDE#8, 0x56#8, 0x45#8, 0x57#8, 0x41#8, 0x10#8, 0x02#8, 0x00#8, 0x00#8]) := by decide

/-- V-C4 -/
theorem test_unit_encode_response_params :
    encodeResponse { Params.default with actCode := 0x5A#8, actParam := 0x1234#16 } 0x00#8 =
      [0x41#8, 0x88#8, 0x00#8, 0xCA#8, 0xDE#8, 0x56#8, 0x45#8, 0x57#8, 0x41#8, 0x10#8, 0x5A#8, 0x34#8, 0x12#8] := by decide

/-- V-C6: bits above 31 are dropped -/
theorem test_unit_encode_final :
    out (.unitEncodeFinal 0x00#8 0x000000FF12345678#64 0x0000010000000001#64 0#64) =
      some (.bytes [0x41#8, 0x88#8, 0x00#8, 0xCA#8, 0xDE#8, 0x57#8, 0x41#8, 0x56#8, 0x45#8, 0x23#8, 0x78#8, 0x56#8, 0x34#8, 0x12#8, 0x01#8, 0x00#8, 0x00#8, 0x00#8, 0x00#8, 0x00#8, 0x00#8, 0x00#8]) := by decide

/-- V-C7, V-C9a: the trailing byte is ignored -/
theorem test_unit_decode_final :
    out (.unitDecodeFinalTimestamps [0x41#8, 0x88#8, 0x12#8, 0xCA#8, 0xDE#8, 0x57#8, 0x41#8, 0x56#8, 0x45#8, 0x23#8, 0x44#8, 0x33#8, 0x22#8, 0x11#8, 0x88#8, 0x77#8, 0x66#8, 0x55#8, 0xCC#8, 0xBB#8, 0xAA#8, 0x99#8, 0xEE#8]) =
      some (.timestamps 0x11223344#32 0x55667788#32 0x99AABBCC#32) := by decide

/-- V-C9, V-C9b -/
theorem test_unit_decode_final_short :
    out (.unitDecodeFinalTimestamps [0x41#8, 0x88#8, 0x12#8, 0xCA#8, 0xDE#8, 0x57#8, 0x41#8, 0x56#8, 0x45#8, 0x23#8, 0x44#8, 0x33#8, 0x22#8, 0x11#8, 0x88#8, 0x77#8, 0x66#8, 0x55#8, 0xCC#8, 0xBB#8, 0xAA#8]) = some .decodeFail ∧
    out (.unitDecodeFinalTimestamps []) = some .decodeFail := by decide

/-- V-C11 to V-C15 -/
theorem test_unit_matches :
    out (.unitMatchesType [0x41#8, 0x88#8, 0xA5#8, 0xCA#8, 0xDE#8, 0x56#8, 0x45#8, 0x57#8, 0x41#8, 0x10#8, 0x02#8, 0x00#8, 0x00#8] .response) = some (.flag true) ∧
    out (.unitMatchesType [0x41#8, 0x88#8, 0x07#8, 0xCA#8, 0xDE#8, 0x56#8, 0x45#8, 0x57#8, 0x41#8, 0x11#8, 0x02#8, 0x00#8, 0x00#8] .response) = some (.flag false) ∧
    out (.unitMatchesType [0x40#8, 0x88#8, 0x07#8, 0xCA#8, 0xDE#8, 0x56#8, 0x45#8, 0x57#8, 0x41#8, 0x10#8, 0x02#8, 0x00#8, 0x00#8] .response) = some (.flag false) ∧
    out (.unitMatchesType [0x41#8, 0x88#8, 0x07#8, 0xCA#8, 0xDE#8, 0x56#8, 0x45#8, 0x57#8, 0x41#8, 0x10#8, 0x77#8, 0x00#8, 0x00#8] .response) = some (.flag true) ∧
    out (.unitMatchesType [0x41#8, 0x88#8, 0x07#8, 0xCA#8, 0xDE#8, 0x56#8, 0x45#8, 0x57#8, 0x41#8, 0x10#8, 0x02#8, 0x00#8, 0x00#8, 0x00#8] .response) = some (.flag false) := by decide

/-- V-C15 to V-C18a -/
theorem test_unit_matches_header_only :
    matchesType headerOnly [0x41#8, 0x88#8, 0x07#8, 0xCA#8, 0xDE#8, 0x56#8, 0x45#8, 0x57#8, 0x41#8, 0x10#8, 0x02#8, 0x00#8, 0x00#8, 0x00#8] .response = true ∧
    matchesType headerOnly [0x41#8, 0x88#8, 0x00#8, 0xCA#8, 0xDE#8, 0x57#8, 0x41#8, 0x56#8, 0x45#8] .poll = false ∧ matchesType headerOnly [] .final = false ∧
    matchesType headerOnly [0x41#8, 0x88#8, 0x00#8, 0xCA#8, 0xDE#8, 0x57#8, 0x41#8, 0x56#8, 0x45#8, 0x23#8] .final = true := by decide

/-- V-C19, V-C20 -/
theorem test_unit_le32 :
    out (.unitDecode32Le 0x04#8 0x03#8 0x02#8 0x01#8) = some (.word32 0x01020304#32) ∧
    out (.unitEncode32Le 0x01020304#32) = some (.bytes [0x04#8, 0x03#8, 0x02#8, 0x01#8]) := by decide

/-- V-T1, V-T2 -/
theorem test_unit_widen :
    out (.unitWiden40To64 ⟨0x01#8, 0x02#8, 0x03#8, 0x04#8, 0x05#8⟩) =
      some (.word64 0x0000000504030201#64) ∧
    widen40To64 ⟨0xFF#8, 0xFF#8, 0xFF#8, 0xFF#8, 0xFF#8⟩ = 0x000000FFFFFFFFFF#64 := by decide

/-- V-T4 to V-T6 -/
theorem test_unit_narrow_sub :
    out (.unitNarrowTo32 0x000000FF12345678#64) = some (.word32 0x12345678#32) ∧
    out (.unitSub32 0x00000010#32 0xFFFFFFF0#32) = some (.word32 0x20#32) ∧
    sub32 0#32 1#32 = 0xFFFFFFFF#32 := by decide

/-- V-T12, V-T13, V-T15 -/
theorem test_unit_align :
    out (.unitAlignDelayedTx 0x00000012345679FF#64) = some (.word32 0x12345678#32) ∧
    alignDelayedTx 0x0000010000000100#64 = 0#32 ∧ alignDelayedTx 0xFFFFFFFFFF#64 = 0xFFFFFFFE#32 := by decide

/-- V-T19, V-T17 -/
theorem test_unit_predict :
    out (.unitPredictFinalTx 0xFFFFFFFE#32 0x4034#16) = some (.word64 0x0000010000003E34#64) ∧
    predictFinalTx 0x001C2100#32 0x4034#16 = 0x1C214034#64 := by decide

/-- V-R19 -/
theorem test_unit_intervals :
    out (.unitRangingIntervals 0xFFFFFF00#32 0x00000538#32 0x0C1C0538#32 0x00000064#32 0x000005D4#32
      0x0C1C069C#32) = some (.intervals 1592#32 203161800#32 203161600#32 1392#32) := by decide

/-- V-R8, V-R4, V-R9 -/
theorem test_unit_tof :
    out (.unitTofDeviceUnits 10#32 10#32 20#32 19#32) = some (.tof 0xFFFFFFFFFFFFFFFC#64 false) ∧
    out (.unitTofDeviceUnits 10#32 3#32 1#32 1#32) = some (.tof 1#64 false) ∧
    out (.unitTofDeviceUnits 0#32 0#32 0#32 0#32) = some (.tof 0#64 true) := by decide

/-- V-R15, V-R17 -/
theorem test_unit_tof_bounds :
    tofDeviceUnits ⟨0#32, 0#32, 0xFFFFFFFF#32, 0xFFFFFFFF#32⟩ = 0xFFFFFFFF80000001#64 ∧
    tofDeviceUnits ⟨327680#32, 203751624#32, 203182080#32, 327480#32⟩ = 557#64 := by decide

/-- R216, R217 for TOF_DTU = -4. -/
theorem test_unit_time_distance :
    out (.unitTimeOfFlight 0xFFFFFFFFFFFFFFFC#64) = some (.rational ((-4 : Int) * Config.dtuSeconds.val)) ∧
    out (.unitDistance 0xFFFFFFFFFFFFFFFC#64) =
      some (.rational ((-4 : Int) * Config.dtuSeconds.val * Config.speedOfLight.val)) := ⟨rfl, rfl⟩

/-- R6, R216: another record, another time; R257: a WAIT asks for the duration of the record. -/
theorem test_params_apply (q : PosRat) (n : Nat) :
    timeOfFlight { Params.default with dtuSeconds := q } 3#64 = (3 : Int) * q.val ∧
    after (exec (.cmdWait .finalRepeatPause)
      (State.resetWith { Params.default with finalRepeatPause := n })) State.waitInForce = some (some n) ∧
    after (exec (.cmdArmRx .resp)
      (State.resetWith { Params.default with respRxTimeout := n })) State.rxTimeoutInForce =
      some (some (some n)) := ⟨rfl, rfl, rfl⟩

/-! ### State actions (V-S, one step each) -/

/-- V-S1 -/
theorem test_act_send_poll_issue :
    after (exec .iSendPollIssue { at0 0x00#6 0x05#8 0x07#8 with t0 := 9#64 }) (fun s => (view s, s.t0, s.valid, s.txlen)) =
      some ((0x01#6, 0x05#8, 0#8, [.cmd (.tx .immediate true .resp 0#32
        [0x41#8, 0x88#8, 0x05#8, 0xCA#8, 0xDE#8, 0x57#8, 0x41#8, 0x56#8, 0x45#8, 0x21#8])]), 0#64, 0#8, 10#5) := by decide

/-- V-S3 -/
theorem test_act_send_poll_await :
    after (exec .iSendPollAwait (offer (at0 0x01#6 0xFF#8 0#8) (.txDone (ts 0xFFFFFFFFFF#40))))
      (fun s => (view s, s.t0, s.valid)) = some ((0x05#6, 0x00#8, 0#8, []), 0xFFFFFFFFFF#64, 0x01#8) := by decide

/-- V-S4 -/
theorem test_act_await_response :
    after (exec .iAwaitResponseAwait (offer (at0 0x05#6 1#8 1#8) (.rxGood (ts 0x0010050000#40)
      (encodeResponse Params.default 0x33#8)))) (fun s => (view s, s.t1, s.valid)) =
      some ((0x08#6, 1#8, 0#8, []), 0x10050000#64, 0x03#8) := by decide

/-- V-S5 -/
theorem test_act_send_final_issue :
    after (exec .iSendFinalIssue { at0 0x08#6 1#8 3#8 with t0 := 0x10000000#64, t1 := 0x10050000#64 })
      (fun s => (view s, s.t2, s.valid, s.txlen)) =
      some ((0x09#6, 1#8, 0#8, [.cmd (.tx .immediate false .noTimeout 0x001C2100#32
        [0x41#8, 0x88#8, 0x01#8, 0xCA#8, 0xDE#8, 0x57#8, 0x41#8, 0x56#8, 0x45#8, 0x23#8, 0x00#8, 0x00#8, 0x00#8, 0x10#8, 0x00#8, 0x00#8, 0x05#8, 0x10#8, 0x34#8, 0x40#8, 0x21#8, 0x1C#8])]),
        0x1C214034#64, 0x07#8, 22#5) := by decide

/-- V-S6, V-S8: the sum wraps at 2^40 -/
theorem test_act_send_final_wrapped :
    after (exec .iSendFinalIssue { at' { Params.default with finalTxMode := .delayed } 0x08#6 1#8 3#8 with
      t1 := 0xFFF3E40000#64 }) (fun s => (s.t2, s.trace)) =
      some (0x4034#64, [.cmd (.tx .delayed false .noTimeout 0#32
        [0x41#8, 0x88#8, 0x01#8, 0xCA#8, 0xDE#8, 0x57#8, 0x41#8, 0x56#8, 0x45#8, 0x23#8, 0x00#8, 0x00#8, 0x00#8, 0x00#8, 0x00#8, 0x00#8, 0xE4#8, 0xF3#8, 0x34#8, 0x40#8, 0x00#8, 0x00#8])]) := by decide

/-- V-S9 -/
theorem test_act_send_final_await :
    after (exec .iSendFinalAwait (offer (at0 0x09#6 1#8 7#8) (.txDone (ts 0x001C215000#40))))
      (fun s => (view s, s.t2)) = some ((0x0C#6, 2#8, 0#8, []), 0x1C215000#64) := by decide

/-- V-S10 -/
theorem test_act_repeat_issue :
    after (exec .iSendFinalRepeatIssue (at0 0x0C#6 2#8 7#8)) view =
      some (0x0E#6, 2#8, 0#8, [.cmd (.wait .finalRepeatPause)]) := by decide

/-- V-S11 -/
theorem test_act_repeat_pause :
    after (exec .iSendFinalRepeatPause (offer { at0 0x0E#6 2#8 7#8 with
      t0 := 0x10000000#64, t1 := 0x10050000#64, t2 := 0x1C215000#64 } .delayDone)) view =
      some (0x0D#6, 2#8, 0#8, [.cmd (.tx .immediate false .noTimeout 0#32
        [0x41#8, 0x88#8, 0x02#8, 0xCA#8, 0xDE#8, 0x57#8, 0x41#8, 0x56#8, 0x45#8, 0x23#8, 0x00#8, 0x00#8, 0x00#8, 0x10#8, 0x00#8, 0x00#8, 0x05#8, 0x10#8, 0x00#8, 0x50#8, 0x21#8, 0x1C#8])]) := by decide

/-- V-S12 -/
theorem test_act_repeat_await :
    after (exec .iSendFinalRepeatAwait (offer { at0 0x0D#6 2#8 7#8 with t2 := 5#64 } (.txDone (ts 0x001C2A0000#40))))
      (fun s => (view s, s.t2)) = some ((0x10#6, 3#8, 0#8, []), 5#64) := by decide

/-- V-S13 -/
theorem test_act_idle_issue :
    after (exec .iIdleIssue (at0 0x10#6 3#8 7#8)) view = some (0x11#6, 3#8, 0#8, [.cmd (.wait .interRanging)]) := by decide

/-- V-S14 -/
theorem test_act_idle_await :
    after (exec .iIdleAwait (offer (at0 0x11#6 3#8 7#8) .delayDone)) view = some (0x00#6, 3#8, 0#8, []) := by decide

/-- V-S15 -/
theorem test_act_await_poll_issue :
    after (exec .rAwaitPollIssue { at0 0x20#6 9#8 0xF8#8 with t3 := 5#64, e1 := 6#32 })
      (fun s => (view s, s.t3, s.e1, s.valid)) =
      some ((0x21#6, 9#8, 0#8, [.cmd (.armRx .noTimeout)]), 0#64, 0#32, 0#8) := by decide

/-- V-S16 -/
theorem test_act_await_poll_await :
    after (exec .rAwaitPollAwait (offer (at0 0x21#6 9#8 0#8) (.rxGood (ts 0x0030000064#40)
      (encodePoll Params.default 0x77#8)))) (fun s => (view s, s.t3, s.valid)) =
      some ((0x24#6, 9#8, 0#8, []), 0x30000064#64, 0x08#8) := by decide

/-- V-S17 -/
theorem test_act_send_response_issue :
    after (exec .rSendResponseIssue (at0 0x24#6 0x10#8 8#8)) (fun s => (view s, s.txlen)) =
      some ((0x25#6, 0x10#8, 0#8, [.cmd (.tx .immediate true .final 0#32
        [0x41#8, 0x88#8, 0x10#8, 0xCA#8, 0xDE#8, 0x56#8, 0x45#8, 0x57#8, 0x41#8, 0x10#8, 0x02#8, 0x00#8, 0x00#8])]), 13#5) := by decide

/-- V-S18 -/
theorem test_act_send_response_await :
    after (exec .rSendResponseAwait (offer (at0 0x25#6 0x10#8 8#8) (.txDone (ts 0x003004FF9C#40))))
      (fun s => (view s, s.t4, s.valid)) = some ((0x29#6, 0x11#8, 0#8, []), 0x3004FF9C#64, 0x18#8) := by decide

/-- V-S19 -/
theorem test_act_await_final :
    after (exec .rAwaitFinalAwait (offer (at0 0x29#6 0x11#8 0x18#8) (.rxGood (ts 0x003C215064#40)
      (encodeFinal Params.default 1#8 0xAA#64 0xBB#64 0xCC#64)))) (fun s => (view s, s.t5, s.valid, s.e0)) =
      some ((0x2C#6, 0x12#8, 0#8, []), 0x3C215064#64, 0x38#8, 0#32) := by decide

/-- V-S20 -/
theorem test_act_final_repeat_issue :
    after (exec .rAwaitFinalRepeatIssue (at0 0x2C#6 0x12#8 0x38#8)) view =
      some (0x2D#6, 0x12#8, 0#8, [.cmd (.armRx .noTimeout)]) := by decide

/-- V-S21 -/
theorem test_act_final_repeat_await :
    after (exec .rAwaitFinalRepeatAwait (offer (at0 0x2D#6 0x12#8 0x38#8) (.rxGood (ts 0x003C2A0064#40)
      (encodeFinal Params.default 2#8 0x10000000#64 0x10050000#64 0x1C215000#64))))
      (fun s => (view s, s.t6, [s.valid.setWidth 32, s.e0, s.e1, s.e2])) =
      some ((0x30#6, 0x13#8, 0#8, []), 0x3C2A0064#64, [0xF8#32, 0x10000000#32, 0x10050000#32, 0x1C215000#32]) := by decide

/-- The registers of V-S22, under P. -/
def compute (P : Params) : State :=
  { at' P 0x30#6 3#8 0xF8#8 with
    e0 := 0x10000000#32, e1 := 0x10050000#32, e2 := 0x1C215000#32, t3 := 0x30000064#64
    t4 := 0x3004FF9C#64, t5 := 0x3C215064#64, t6 := 0x3C2A0064#64 }

/-- V-S22 -/
theorem test_act_compute_second :
    after (exec .rComputeIssue (compute Params.default)) view = some (0x20#6, 3#8, 0#8,
      [.res ⟨false, 557#64, 327680#32, 203751624#32, 203182080#32, 327480#32⟩]) := by decide

/-- V-S22 with FIRST -/
theorem test_act_compute_first :
    after (exec .rComputeIssue (compute { Params.default with finalRxSource := .first })) view =
      some (0x20#6, 3#8, 0#8, [.res ⟨false, 100#64, 327680#32, 203182280#32, 203182080#32, 327480#32⟩]) := by decide

/-! ### Events, failures and faults (V-X, V-U, V-F) -/

/-- V-X1 -/
theorem test_ev_tx_err_poll :
    after (exec (.evTxErr) (at0 0x01#6 4#8 0#8)) view = some (0x00#6, 4#8, 1#8,
      [.cmd .clearStatus, .cmd .resetRx]) := by decide

/-- V-X1a -/
theorem test_ev_rx_timeout_response :
    after (exec (.evRxTimeout) (at0 0x05#6 5#8 0#8)) view = some (0x10#6, 5#8, 2#8,
      [.cmd .clearStatus, .cmd .resetRx]) := by decide

/-- V-X1b -/
theorem test_ev_rx_err_response :
    after (exec (.evRxErr) (at0 0x05#6 5#8 0#8)) view = some (0x10#6, 5#8, 3#8,
      [.cmd .clearStatus, .cmd .resetRx]) := by decide

/-- V-X1c -/
theorem test_ev_rx_good_mismatch :
    after (exec (.evRxGood (ts 0#40) (encodePoll Params.default 0#8)) (at0 0x05#6 5#8 0#8)) view = some (0x10#6, 5#8, 4#8,
      [.cmd .clearStatus, .cmd .resetRx]) := by decide

/-- V-X1e -/
theorem test_ev_tx_err_final :
    after (exec (.evTxErr) (at0 0x09#6 6#8 0#8)) view = some (0x10#6, 6#8, 1#8,
      [.cmd .clearStatus, .cmd .resetRx]) := by decide

/-- V-X4 -/
theorem test_ev_rx_timeout_final :
    after (exec (.evRxTimeout) (at0 0x29#6 10#8 0#8)) view = some (0x20#6, 11#8, 2#8,
      [.cmd .clearStatus, .cmd .resetRx]) := by decide

/-- V-X5 -/
theorem test_ev_rx_err_repeat :
    after (exec (.evRxErr) (at0 0x2D#6 11#8 0#8)) view = some (0x20#6, 12#8, 3#8,
      [.cmd .clearStatus, .cmd .resetRx]) := by decide

/-- V-X5b -/
theorem test_ev_rx_good_decode_fail :
    after (exec (.evRxGood (ts 0#40) ((encodeFinal headerOnly 5#8 1#64 2#64 3#64).take 18)) (at' headerOnly 0x2D#6 11#8 0#8)) view = some (0x20#6, 12#8, 4#8,
      [.cmd .clearStatus, .cmd .resetRx]) := by decide

/-- V-S2 -/
theorem test_ev_tx_done :
    after (exec (.evTxDone (ts 0x0010000000#40)) (at0 0x01#6 5#8 0#8)) (fun s => (view s, s.t0)) =
      some ((0x05#6, 6#8, 0#8, []), 0x10000000#64) := by decide

/-- V-S14, V-U3 -/
theorem test_ev_delay_done :
    after (exec .evDelayDone (at0 0x11#6 3#8 7#8)) view = some (0x00#6, 3#8, 0#8, []) ∧
    after (exec .evDelayDone (at0 0x05#6 5#8 1#8)) view = some (0x05#6, 5#8, 0x08#8, []) := by decide

/-- V-U1, V-U5 -/
theorem test_unexpected_tx_done :
    after (exec (.evTxDone (ts 0x2000#40)) (at0 0x21#6 0#8 0#8)) view = some (0x21#6, 0#8, 0x08#8, []) ∧
    after (exec .iSendFinalRepeatPause (offer (at0 0x0E#6 2#8 7#8) (.txDone (ts 0#40))))
      (fun s => (view s, s.events)) = some ((0x0E#6, 2#8, 0x08#8, []), []) := by decide

/-- V-U4 -/
theorem test_unexpected_reserved :
    after (step { at0 0x11#6 3#8 0#8 with events := [0x07#8, 0#8, 0#8, 0#8, 0x55#8] })
      (fun s => (view s, s.events)) = some ((0x11#6, 3#8, 0x08#8, []), [0x55#8]) := by decide

/-- V-F1 -/
theorem test_illegal_state :
    after (step { at0 0x14#6 3#8 0#8 with cfgRole := 0#1 }) view = some (0x14#6, 3#8, 0x10#8, []) := by decide

/-- V-F2 -/
theorem test_illegal_phase_event :
    after (step (offer (at0 0x02#6 3#8 0#8) .delayDone)) (fun s => (view s, s.events)) =
      some ((0x02#6, 3#8, 0x10#8, []), []) := by decide

/-- V-F3 -/
theorem test_illegal_role :
    after (step { at0 0x00#6 3#8 0#8 with cfgRole := 1#1 }) view = some (0x00#6, 3#8, 0x10#8, []) := by decide

/-- V-F4, and the block stays stuck -/
theorem test_invalid_read :
    after (step (at0 0x08#6 3#8 0#8)) view = some (0x08#6, 3#8, 0x10#8, []) ∧
    after (step { at0 0x08#6 3#8 3#8 with status := 0x10#8 }) view = some (0x08#6, 3#8, 0x10#8, []) := by decide

/-! ### Frames, commands, the result record, reset, the host's words -/

/-- R181, log 11 -/
theorem test_frame_poll :
    after (exec (.framePoll 0x77#8) (at0 0x21#6 9#8 0#8)) (fun s => (view s, s.valid)) =
      some ((0x24#6, 9#8, 0#8, []), 0x08#8) := by decide

/-- R152: the activity bytes are not read -/
theorem test_frame_response :
    after (exec (.frameResponse 0#8 0xAA#8 0xBBCC#16) (at0 0x05#6 1#8 1#8)) (fun s => (view s, s.valid)) =
      some ((0x08#6, 1#8, 0#8, []), 0x03#8) := by decide

/-- R186 -/
theorem test_frame_final :
    after (exec (.frameFinal 2#8 0x11#32 0x22#32 0x33#32) (at0 0x2D#6 1#8 0x38#8))
      (fun s => (view s, s.e0, s.e1, s.e2)) = some ((0x30#6, 2#8, 0#8, []), 0x11#32, 0x22#32, 0x33#32) := by decide

/-- R251, R253 -/
theorem test_cmd_tx :
    after (exec (.cmdTx .delayed true .final 0x001C2100#32 [0xAA#8]) (at0 0x00#6 0#8 0#8)) (fun s => s.env.tx) =
      some (some ⟨[0xAA#8], some 0x1C210000#40, some .final⟩) := by decide

/-- R254 to R257 -/
theorem test_cmds :
    after (exec (.cmdArmRx .resp) (at0 0x00#6 0#8 0#8)) (fun s => s.env.rx) = some (some .resp) ∧
    after (exec .cmdResetRx { at0 0x00#6 0#8 0#8 with env := ⟨none, some .resp, none, 7#32⟩ }) (fun s => s.env) =
      some ⟨none, none, none, 7#32⟩ ∧
    after (exec .cmdClearStatus { at0 0x00#6 0#8 0#8 with env := ⟨none, some .resp, none, 7#32⟩ }) (fun s => s.env) =
      some ⟨none, some .resp, none, 0#32⟩ ∧
    after (exec (.cmdWait .interRanging) (at0 0x00#6 0#8 0#8)) (fun s => s.env.timer) = some (some .interRanging) := by decide

/-- R264 -/
theorem test_result :
    after (exec (.result true 0#64 1#32 2#32 3#32 4#32) (at0 0x00#6 0#8 0#8)) (fun s => s.results) =
      some [⟨true, 0#64, 1#32, 2#32, 3#32, 4#32⟩] := by decide

/-- I19, log 21: rejected without effect, in a script too. -/
theorem test_frame_too_long (s : State) (f : List Byte) (h : f.length = 256) :
    exec (.cmdTx .immediate false .noTimeout 0#32 f) s = .next s ∧
    exec (.evRxGood (ts 0#40) f) s = .next s ∧
    ScriptLine.place (.rxGood 0#40 (.bytes f)) s = s := by
  simp [exec, execCmdTx, execEvRxGood, ScriptLine.place, ScriptLine.event, FrameArg.expand, maxLen, h]

/-- A word on the probe port, and what a step makes of it. -/
def probed (s : State) (p : Port) (bs : List Byte) : Option (BitVec 6 × Byte × Byte × List Output) :=
  after (step { s with probe := some ⟨p, bs⟩ }) view

/-- R98 (b), R289: a reserved CODE is an unexpected event; R99, R285: a frame of no type, or of a type with a byte too
many, is a mismatch of the state that receives it. -/
theorem test_probe_event_frame :
    probed (at0 0x21#6 0#8 0#8) .event [0x07#8, 0#8, 0#8, 0#8] = some (0x21#6, 0#8, 0x08#8, []) ∧
    probed (at0 0x21#6 0#8 0#8) .frame [0x41#8, 0x88#8] =
      some (0x20#6, 0#8, 0x04#8, [.cmd .clearStatus, .cmd .resetRx]) ∧
    probed (at0 0x21#6 0#8 0#8) .frame (encodePoll Params.default 0#8 ++ [0#8]) =
      some (0x20#6, 0#8, 0x04#8, [.cmd .clearStatus, .cmd .resetRx]) := by decide

/-- R290 at an illegal selector and at one of the other role; I15: a reserved OP is rejected without effect. -/
theorem test_probe_selector_command :
    probed (at0 0x00#6 3#8 0#8) .selector [0x14#8] = some (0x14#6, 3#8, 0x10#8, []) ∧
    probed (at0 0x00#6 3#8 0#8) .selector [0x2C#8] = some (0x2C#6, 3#8, 0x10#8, []) ∧
    probed (at0 0x00#6 3#8 0#8) .command [0x06#8, 0#8, 0#8, 0#8] = some (0x00#6, 3#8, 0#8, []) := by decide

/-- V-Z1 -/
theorem test_reset_initiator :
    view State.reset = (0x00#6, 0#8, 0#8, []) ∧ State.reset.cfgAntDly = 0x4034#16 ∧
    after (step State.reset) (fun s => (s.selector, s.trace)) = some (0x01#6,
      [.cmd (.tx .immediate true .resp 0#32 [0x41#8, 0x88#8, 0x00#8, 0xCA#8, 0xDE#8, 0x57#8, 0x41#8, 0x56#8, 0x45#8, 0x21#8])]) := by decide

/-- V-Z2, V-Z3 -/
theorem test_reset_responder :
    after (step ((at0 0x09#6 7#8 0xFF#8).hardReset 1#1 0#16)) view =
      some (0x21#6, 0#8, 0#8, [.cmd (.armRx .noTimeout)]) := by decide

/-- log 23 -/
theorem test_fetch_word_selector :
    after (step (State.reset.withFetchWord 8 0x2C)) view = some (0x2D#6, 0#8, 0#8, [.cmd (.armRx .noTimeout)]) := by decide

/-- log 23: EV_TX_ERR at I_SEND_POLL.AWAIT -/
theorem test_fetch_word_event :
    after (step (State.reset.withFetchWord 32 0x2)) view = some (0x00#6, 0#8, 1#8,
      [.cmd .clearStatus, .cmd .resetRx]) := by decide

/-- R43 -/
theorem test_registers :
    (readReg State.reset 0x04).map (fun r => (r.name, r.width, r.value)) = some ("CFG_ANT_DLY", 16, 0x4034) ∧
    (readReg State.reset 0x17).isNone = true := by decide

/-- R103 -/
theorem test_script :
    (placeScript [.reset 1#1 0x4034#16, .txDone 0x2000#40] State.reset).events =
      [0x01#8, 0x00#8, 0x00#8, 0x00#8, 0x00#8, 0x20#8, 0x00#8, 0x00#8, 0x00#8] := by decide

/-- R103, R104: a line is run before the next RESET; the macro sends the low 32 bits of a 64-bit argument (R123). -/
theorem test_script_run :
    after (runScript [.txErr, .reset 1#1 0#16, .rxErr] State.reset) view =
      some (0x21#6, 0#8, 3#8, [.cmd (.armRx .noTimeout), .cmd .clearStatus, .cmd .resetRx, .cmd (.armRx .noTimeout)]) ∧
    (FrameArg.final 1#8 0x1AABBCCDD#64 0#64 0#64).expand Params.default =
      encodeFinal Params.default 1#8 0xAABBCCDD#64 0#64 0#64 := by decide

/-! ### Witnesses: a state and operands that meet the hypotheses of each statement, each clause -/

theorem test_witness_DecodeOfEncodeIsIdentity (f : List Byte) (h : f.length = 255) :
    Params.default.wf = true ∧ Instr.wf (.cmdTx .delayed true .final 1#32 f) = true := by
  refine ⟨by decide, ?_⟩
  simp [Instr.wf, Command.wf, maxLen, h]

theorem test_witness_EventWordMeaning :
    (0xFFFFFFF1#32).extractLsb' 0 4 = 0x1#4 ∧ (0x2#32).extractLsb' 0 4 = 0x2#4 ∧
    ((0x3#32).extractLsb' 0 4 = 0x3#4 ∧ ((0x3#32).extractLsb' 8 8).toNat = ([] : List Byte).length) ∧
    (0x4#32).extractLsb' 0 4 = 0x4#4 ∧ (0x5#32).extractLsb' 0 4 = 0x5#4 ∧
    (0x6#32).extractLsb' 0 4 = 0x6#4 ∧ (0x10#32).extractLsb' 0 4 = 0x0#4 ∧
    0x7#4 ≤ (0x7#32).extractLsb' 0 4 ∧ 0x7#4 ≤ (0xF#32).extractLsb' 0 4 := by decide

theorem test_witness_EventWordMeaning_longest :
    (0xFF03#32).extractLsb' 0 4 = 0x3#4 ∧
    ((0xFF03#32).extractLsb' 8 8).toNat = (List.replicate 255 0#8).length := by
  rw [List.length_replicate]; decide

theorem test_witness_SelectorSelectsAction : (∀ ss ∈ ([0x00#6, 0x01#6, 0x05#6, 0x08#6, 0x09#6, 0x0C#6, 0x0E#6,
      0x0D#6, 0x10#6, 0x11#6, 0x20#6, 0x21#6, 0x24#6, 0x25#6, 0x29#6, 0x2C#6, 0x2D#6, 0x30#6] : List (BitVec 6)),
    (at0 ss 0#8 0#8).selector = ss ∧ (at0 ss 0#8 0#8).stuck = false ∧ (at0 ss 0#8 0#8).probe = none) ∧
    (at0 0x02#6 0#8 0#8).selector = 0x02#6 ∧ (at0 0x3F#6 0#8 0#8).selector = 0x3F#6 := by decide

theorem test_witness_StepEmitsTabledWords :
    ∃ s', State.reset.probe = none ∧ step State.reset = .next s' := ⟨_, rfl, rfl⟩

theorem test_witness_FinalDecoderReadsFields :
    (List.replicate 21 0#8).length < 22 ∧ 22 ≤ (List.replicate 22 0#8).length := by decide

theorem test_witness_CodecLaws :
    Params.default.wf = true ∧ FrameType.response ≠ .poll ∧ FrameType.final ≠ .response ∧
    FrameType.poll ≠ .final := by decide

/-- V-T8, V-T9, and the first elapsed time past the bound (V-T10). -/
theorem test_witness_WrapAroundSafe :
    (0xFFFFFFFFF0#64).toNat < 2 ^ 40 ∧ (0x10#64).toNat < 2 ^ 40 ∧
    ((0x10#64).toNat + 2 ^ 40 - (0xFFFFFFFFF0#64).toNat) % 2 ^ 40 < 2 ^ 32 ∧
    ((0xFFFFFFFF#64).toNat + 2 ^ 40 - (0#64).toNat) % 2 ^ 40 < 2 ^ 32 ∧
    ¬ ((0x100000000#64).toNat + 2 ^ 40 - (0#64).toNat) % 2 ^ 40 < 2 ^ 32 := by decide

theorem test_witness_ScheduledTimeGranularity :
    (0xFFFFFFFFFF#64).toNat < 2 ^ 40 ∧
    2 ^ 40 ≤ (predictFinalTx (alignDelayedTx (0xFFFFFFFFFF#64 + (0#32).setWidth 64)) 0xFFFF#16).toNat := by
  decide

/-- V-R11. -/
theorem test_witness_CancellationLaw : (6#32).toNat * (4#32).toNat = (8#32).toNat * (3#32).toNat := by decide

/-- V-R1, and t = 0. -/
theorem test_witness_IdealClockLaw :
    ((300200#32).toNat = (300000#32).toNat + 2 * 100 ∧ (250200#32).toNat = (250000#32).toNat + 2 * 100) ∧
    ((1#32).toNat = (1#32).toNat + 2 * 0 ∧ (0#32).toNat = (0#32).toNat + 2 * 0) := by decide

/-- Every event is offered by some state: what the AWAIT and PAUSE statements ask. -/
theorem test_witness_offered (s : State) (t : TsBytes) :
    Offered (offer s (.txDone t)) (.txDone t) [] ∧ Offered (offer s .txErr) .txErr [] ∧
    Offered (offer s .rxTimeout) .rxTimeout [] ∧ Offered (offer s .rxErr) .rxErr [] ∧
    Offered (offer s .delayDone) .delayDone [] ∧
    Offered (offer s (.reserved 0x7#4)) (.reserved 0x7#4) [] := ⟨rfl, rfl, rfl, rfl, rfl, rfl⟩

/-- A frame of each type and its mismatch, offered: AwaitResponse, AwaitPollAwait, AwaitFinal. -/
theorem test_witness_frames_offered :
    Offered (offer (at0 0x05#6 1#8 1#8) (.rxGood (ts 0#40) (encodeResponse Params.default 0#8)))
      (.rxGood (ts 0#40) (encodeResponse Params.default 0#8)) [] ∧
    matchesType Params.default (encodeResponse Params.default 0#8) .response = true ∧
    matchesType Params.default (encodeResponse Params.default 0#8) .poll = false ∧
    matchesType Params.default (encodePoll Params.default 0#8) .poll = true ∧
    matchesType Params.default (encodePoll Params.default 0#8) .response = false ∧
    matchesType Params.default (encodePoll Params.default 0#8) .final = false ∧
    matchesType Params.default (encodeFinal Params.default 0#8 1#64 2#64 3#64) .final = true := by
  refine ⟨rfl, ?_⟩
  decide

/-- AwaitFinalRepeat: a payload that decodes, and a short frame that passes HEADER_ONLY and does not. -/
theorem test_witness_AwaitFinalRepeat :
    decodeFinalTimestamps (encodeFinal Params.default 0#8 1#64 2#64 3#64) = some (1#32, 2#32, 3#32) ∧
    matchesType headerOnly ((encodeFinal headerOnly 0#8 1#64 2#64 3#64).take 21) .final = true ∧
    decodeFinalTimestamps ((encodeFinal headerOnly 0#8 1#64 2#64 3#64).take 21) = none := by decide

/-- SendPollIssue, SendResponseIssue, SendFinalIssue, SendFinalRepeatPause: TXBUF canonical, registers valid. -/
theorem test_witness_sends :
    Memory.wf (at0 0x08#6 1#8 0x03#8).txbuf = true ∧ (at0 0x08#6 1#8 0x03#8).valid &&& 0x03#8 = 0x03#8 ∧
    (at0 0x0E#6 2#8 0x07#8).valid &&& 0x07#8 = 0x07#8 ∧
    Memory.wf [(0, 0x41#8), (21, 0x01#8)] = true ∧ Memory.wf [(22, 0x01#8)] = false := by decide

theorem test_witness_ComputeEmitsResult :
    (compute Params.default).valid &&& 0xD8#8 = 0xD8#8 ∧
    (compute { Params.default with finalRxSource := .first }).valid &&& 0xB8#8 = 0xB8#8 := by decide

/-- TxDoneEvent, FailureEvents, RxGoodEvent, DelayDoneEvent, FramesAreReceived, UnexpectedEventRow: every pair
that waits, not stuck, with the class it waits for. -/
theorem test_witness_events : ∀ e ∈ ([(0x01#6, .tx), (0x09#6, .tx), (0x0D#6, .tx), (0x25#6, .tx), (0x05#6, .rx),
      (0x21#6, .rx), (0x29#6, .rx), (0x2D#6, .rx), (0x0E#6, .dly), (0x11#6, .dly)] : List (BitVec 6 × EventClass)),
    (at0 e.1 0#8 7#8).stuck = false ∧ (at0 e.1 0#8 7#8).selector = e.1 ∧
    waitsFor (at0 e.1 0#8 7#8).selector = some e.2 := by decide

/-- RxGoodEvent at the longest frame and past it. -/
theorem test_witness_RxGoodEvent_length :
    (List.replicate 255 0#8).length ≤ 255 ∧ 255 < (List.replicate 256 0#8).length := by
  rw [List.length_replicate, List.length_replicate]; decide

theorem test_witness_UnexpectedEventSetsFlag :
    waitsFor (at0 0x21#6 0#8 0#8).selector = some .rx ∧ eventClass (.txDone (ts 0#40)) ≠ some .rx ∧
    eventClass (.reserved 0x7#4) ≠ some .rx ∧
    decodeSelector (at0 0x21#6 0#8 0#8).selector = .ok .rAwaitPollAwait ∧
    eventClass .txErr ≠ waitsFor (at0 0x20#6 0#8 0#8).selector ∧ (at0 0x20#6 0#8 0#8).stuck = false ∧
    decodeEvent [0x07#8, 0#8, 0#8, 0#8] = .ok (.reserved 0x7#4, []) ∧
    (Event.txErr).toInstr = .ok .evTxErr ∧ (Instr.evTxErr).wf = true := by decide

/-- Each way to be illegal, in each phase, with an event offered and with none; FAULT set at a legal pair is stuck,
in an ISSUE pair and in one that waits. -/
theorem test_witness_IllegalPairIsStuck :
    (∀ i, decodeSelector (at0 0x14#6 0#8 0#8).selector ≠ .ok i) ∧
    (∀ i, decodeSelector (at0 0x03#6 0#8 0#8).selector ≠ .ok i) ∧
    ({ at0 0x01#6 0#8 0#8 with cfgRole := 1#1 }.state.getLsbD 3 ≠
      { at0 0x01#6 0#8 0#8 with cfgRole := 1#1 }.cfgRole.getLsbD 0) ∧
    (at0 0x14#6 0#8 0#8).phase = 0#2 ∧ (at0 0x03#6 0#8 0#8).phase = 3#2 ∧ (at0 0x01#6 0#8 0#8).phase = 1#2 ∧
    (at0 0x02#6 0#8 0#8).phase = 2#2 ∧
    Offered (offer (at0 0x02#6 0#8 0#8) .delayDone) .delayDone [] ∧
    decodeEvent (at0 0x02#6 0#8 0#8).events = .error .truncated ∧
    (at0 0x14#6 0#8 0#8).stuck = true ∧ (at0 0x02#6 0#8 0#8).stuck = true ∧ (at0 0x03#6 0#8 0#8).stuck = true ∧
    (0x10#8 &&& 0x10#8 = 0x10#8) ∧
    (∀ ss ∈ ([0x08#6, 0x01#6, 0x0E#6] : List (BitVec 6)), { at0 ss 0#8 0#8 with status := 0x10#8 }.legal = true ∧
      { at0 ss 0#8 0#8 with status := 0x10#8 }.stuck = true) := by
  refine ⟨?_, ?_, by decide, by decide, by decide, by decide, by decide, rfl, rfl, by decide, by decide, by decide,
    by decide, by decide⟩ <;>
  · intro i h
    have : ∀ ss ∈ ([0x14#6, 0x03#6] : List (BitVec 6)), decodeSelector ss = .error .reservedSelector := by decide
    first
    | rw [show (at0 0x14#6 0#8 0#8).selector = 0x14#6 from by decide, this 0x14#6 (by decide)] at h; cases h
    | rw [show (at0 0x03#6 0#8 0#8).selector = 0x03#6 from by decide, this 0x03#6 (by decide)] at h; cases h

theorem test_witness_InvalidReadFaults :
    (at0 0x08#6 1#8 0x01#8).valid &&& 0x03#8 ≠ 0x03#8 ∧ (at0 0x0E#6 2#8 0x03#8).valid &&& 0x07#8 ≠ 0x07#8 ∧
    (at0 0x0E#6 2#8 0x03#8).stuck = false ∧ (at0 0x30#6 2#8 0xB8#8).valid &&& 0xD8#8 ≠ 0xD8#8 ∧
    (at0 0x30#6 2#8 0xD8#8).valid &&& 0xB8#8 ≠ 0xB8#8 ∧ (0x10#8 &&& 0x10#8 = 0x10#8) ∧
    (at0 0x08#6 1#8 0x01#8).phase = 0#2 ∧ (at0 0x01#6 1#8 0x01#8).phase = 1#2 ∧
    (at0 0x0E#6 1#8 0x01#8).phase = 2#2 := by decide

theorem test_witness_TxCommand :
    ([] : List Byte).length ≤ 255 ∧ (List.replicate 255 0#8).length ≤ 255 ∧
    255 < (List.replicate 256 0#8).length := by
  rw [List.length_replicate, List.length_replicate]; decide

/-- StepRunsDecoded: a block that is not stuck, a probe word that decodes, a frame taken whole, a word that encodes
nothing. -/
theorem test_witness_StepRunsDecoded :
    (State.reset.probe = none ∧ State.reset.stuck = false ∧
      decodeSelector State.reset.selector = .ok .iSendPollIssue) ∧
    ((State.reset.withFetchWord 32 0x2).probe = some ⟨.event, [0x02#8, 0#8, 0#8, 0#8]⟩ ∧
      decode Params.default .event [0x02#8, 0#8, 0#8, 0#8] = .ok (.evTxErr, [])) ∧
    decode Params.default .frame (encodePoll Params.default 7#8) = .ok (.framePoll 7#8, []) ∧
    decode Params.default .command [0x06#8, 0#8, 0#8, 0#8] = .error .reservedOp ∧
    decode Params.default .unitFn [0x11#8] = .error .unknownUnit := by decide

/-- FramesAreReceived, UnexpectedEventRow: a state with any frame, and with an event word of a reserved CODE, on the probe port. -/
theorem test_witness_probe (f : List Byte) :
    { at0 0x21#6 0#8 0#8 with probe := some ⟨.frame, f⟩ }.probe = some ⟨.frame, f⟩ ∧
    { at0 0x21#6 0#8 0#8 with probe := some ⟨.event, [0x07#8, 0#8, 0#8, 0#8]⟩ }.stuck = false ∧
    ([] : List Byte).length ≤ 255 := by
  refine ⟨rfl, ?_⟩
  decide

/-- EventStepConsumesOne: a running block that waits, with an event offered and with none. -/
theorem test_witness_EventStepConsumesOne :
    Running (offer (at0 0x21#6 0#8 0#8) .rxErr) ∧ waitsFor (at0 0x21#6 0#8 0#8).selector ≠ none ∧
    Offered (offer (at0 0x21#6 0#8 0#8) .rxErr) .rxErr [] ∧ (Event.rxErr).toInstr = .ok .evRxErr ∧
    decodeEvent (at0 0x21#6 0#8 0#8).events = .error .truncated := by
  refine ⟨?_, by decide, rfl, rfl, rfl⟩
  unfold Running; decide

/-- SettlesInTwoSteps: R_COMPUTE with its registers captured. -/
theorem test_witness_SettlesInTwoSteps :
    Running (compute Params.default) ∧ Captured (compute Params.default) := by
  unfold Running Captured; decide

theorem test_witness_TimeoutIsIdempotent :
    Running (offer (at0 0x20#6 0#8 0#8) .rxTimeout) ∧ (at0 0x20#6 0#8 0#8).selector = 0x20#6 ∧
    Offered (offer (at0 0x20#6 0#8 0#8) .rxTimeout) .rxTimeout [] := by
  refine ⟨?_, by decide, rfl⟩
  unfold Running; decide

/-- StepKeepsRunning, StepKeepsOutstanding, StepKeepsOtherRole, StepKeepsLegalValues,
StepKeepsConfiguration, SeqAndResultDiscipline: a waiting Initiator with a Response offered. -/
def midway : State :=
  { offer (at0 0x05#6 1#8 1#8) (.rxGood (ts 0x10050000#40) (encodeResponse Params.default 0#8)) with
    env := ⟨none, some .resp, none, 0#32⟩ }

theorem test_witness_invariants :
    Running midway ∧ Captured midway ∧ Outstanding midway ∧ OtherRoleIdle midway ∧ TimestampsBounded midway ∧
    StatusLegal midway ∧ TxLegal midway ∧ ∃ s', step midway = .next s' := by
  refine ⟨?_, ?_, ?_, ?_, ?_, ?_, ?_, _, rfl⟩
  · unfold Running; decide
  · unfold Captured; decide
  · exact ⟨rfl, rfl, rfl⟩
  · unfold OtherRoleIdle; decide
  · unfold TimestampsBounded; decide
  · unfold StatusLegal; decide
  · unfold TxLegal; decide

end Sys2Proof.Tests
end

section
/-! Scope (00_scope.md R10, R11): which instruction a step runs, what an event step consumes, and that no step
stops. Settles O48, O49 and O50. -/

namespace Sys2Proof.Machine

open Sys2Proof

/-! ### From the fetch to the step (R11) -/

theorem step_of_fetch_run {s t : State} {i : Instr} (h : fetch s = .run i t) : step s = exec i t := by
  simp [step, h]

theorem step_of_fetch_answer {s : State} {r : Res} (h : fetch s = .answer r) : step s = r := by
  simp [step, h]

theorem step_congr_fetch {s t : State} (h : fetch s = fetch t) : step s = step t := by
  simp [step, h]

theorem fetch_of_probe_none {s : State} (h : s.probe = none) : fetch s = fetchSelected s := by
  simp [fetch, h]

theorem fetch_of_probe {s : State} {p : Probe} (h : s.probe = some p) :
    fetch s = fetchProbe p { s with probe := none } := by
  simp [fetch, h]

/-- The block's own step is the action its selector selects (R90). -/
theorem step_selected {s : State} {i : Instr} (hp : s.probe = none) (hs : s.stuck = false)
    (hi : decodeSelector s.selector = .ok i) : step s = exec i s := by
  apply step_of_fetch_run
  rw [fetch_of_probe_none hp]
  simp [fetchSelected, State.selected, hs, hi]

/-! ### Words on the probe port (log 7, 26) -/

/-- An event word of a reserved CODE is no row of the table. -/
theorem decode_event_of_reserved (P : Params) {bs r : List Byte} {c : BitVec 4}
    (h : decodeEvent bs = .ok (.reserved c, r)) : decode P .event bs = .error .reservedEvent := by
  simp [decode, h, Event.toInstr, bind, Except.bind]

/-- A word that decodes, a frame as a whole, is what the probe's fetch runs. -/
theorem fetchProbe_decoded {p : Probe} {s : State} {i : Instr} {rest : List Byte}
    (hsel : p.port ≠ .selector) (hframe : p.port = .frame → rest = [])
    (hd : decode s.params p.port p.bytes = .ok (i, rest)) : fetchProbe p s = .run i s := by
  rcases fetchProbe_cases p s with
    ⟨j, r, -, hj, -, hf⟩ | ⟨b, bs, rfl, -⟩ | ⟨hport, hno, -⟩ | ⟨c, r, hport, hc, -⟩ | ⟨⟨e, he⟩, -, -⟩
  · rw [hd] at hj
    cases hj
    exact hf
  · exact absurd rfl hsel
  · rw [hport, hframe hport] at hd
    exact absurd hd (hno i)
  · rw [hport, decode_event_of_reserved s.params hc] at hd
    cases hd
  · rw [hd] at he
    cases he

/-- A word that encodes nothing is taken off without effect; a selector, a frame and a reserved event CODE are
the words that have an effect nevertheless. -/
theorem fetchProbe_rejected {p : Probe} {s : State} {e : DecodeError}
    (hsel : p.port ≠ .selector) (hframe : p.port ≠ .frame)
    (hd : decode s.params p.port p.bytes = .error e) (he : e ≠ .reservedEvent) :
    fetchProbe p s = .answer (.next s) := by
  rcases fetchProbe_cases p s with
    ⟨j, r, -, hj, -, -⟩ | ⟨b, bs, rfl, -⟩ | ⟨hport, -, -⟩ | ⟨c, r, hport, hc, -⟩ | ⟨-, -, hf⟩
  · rw [hd] at hj
    cases hj
  · exact absurd rfl hsel
  · exact absurd hport hframe
  · rw [hport, decode_event_of_reserved s.params hc] at hd
    cases hd
    exact absurd rfl he
  · exact hf

/-- A selector on the probe port puts the block at that pair, and the block steps there. -/
theorem step_probe_selector {s : State} {b : Byte} {bs : List Byte}
    (hp : s.probe = some ⟨.selector, b :: bs⟩) :
    step s = step { s with
      probe := none, state := b.extractLsb' 2 4, phase := b.extractLsb' 0 2 } := by
  apply step_congr_fetch
  rw [fetch_of_probe hp, fetch_of_probe_none rfl]
  rfl

/-- Settles O48: each clause is one way the fetch goes. -/
theorem stepRunsDecoded : Obligations.StepRunsDecoded := by
  unfold Obligations.StepRunsDecoded
  intro s i
  refine ⟨step_selected, ?_, ?_, ?_⟩
  · intro p rest hp hsel hframe hd
    exact step_of_fetch_run ((fetch_of_probe hp).trans (fetchProbe_decoded hsel hframe hd))
  · intro b bs hp
    exact step_probe_selector hp
  · intro p e hp hsel hframe hd he
    exact step_of_fetch_answer ((fetch_of_probe hp).trans (fetchProbe_rejected hsel hframe hd he))

/-! ### The event at the port (R95, R96) -/

/-- What follows a successful read in a decoder. -/
theorem except_bind_eq_ok {ε α β : Type} {x : Except ε α} {f : α → Except ε β} {b : β}
    (h : x >>= f = .ok b) : ∃ a, x = .ok a ∧ f a = .ok b := by
  cases x with
  | error e => cases h
  | ok a => exact ⟨a, rfl, h⟩

theorem takeBytes_length {n : Nat} {bs d r : List Byte} (h : takeBytes n bs = .ok (d, r)) :
    d.length = n := by
  unfold takeBytes at h
  split at h
  · next hn =>
    cases h
    exact List.length_take_of_le hn
  · cases h

/-- A frame that arrives with an event is at most 255 bytes: its length is the eight bits of LEN. -/
theorem decodeEvent_rxGood_length {bs data rest : List Byte} {ts : TsBytes}
    (h : decodeEvent bs = .ok (.rxGood ts data, rest)) : data.length ≤ maxLen := by
  unfold decodeEvent at h
  obtain ⟨⟨ew, r⟩, -, h⟩ := except_bind_eq_ok h
  dsimp only at h
  split at h
  · -- CODE 1, TX_DONE
    obtain ⟨⟨ts', r'⟩, -, h⟩ := except_bind_eq_ok h
    cases h
  · cases h
  · -- CODE 3, RX_GOOD
    obtain ⟨⟨ts', r'⟩, -, h⟩ := except_bind_eq_ok h
    obtain ⟨⟨data', r''⟩, hdata, h⟩ := except_bind_eq_ok h
    cases h
    rw [takeBytes_length hdata]
    exact Nat.le_of_lt_succ (BitVec.isLt _)
  all_goals cases h

/-- An offered event's row is the event step on it: the bound on a frame's length holds at the port. -/
theorem exec_row_of_offered {s : State} {ev : Event} {i : Instr} {rest : List Byte} (t : State)
    (ho : Offered s ev rest) (hi : ev.toInstr = .ok i) : exec i t = eventStep ev t := by
  cases ev with
  | rxGood ts data =>
    cases hi
    exact if_pos (decodeEvent_rxGood_length ho)
  | reserved c => cases hi
  | txDone ts => cases hi; rfl
  | txErr => cases hi; rfl
  | rxTimeout => cases hi; rfl
  | rxErr => cases hi; rfl
  | delayDone => cases hi; rfl

/-! ### The event step of a waiting block (R11, R33, R260; log 13) -/

/-- The rule of an AWAIT or PAUSE action for one event; the other rows have none. -/
def eventRule : Instr → Option (Event → State → Res)
  | .iSendPollAwait => some onISendPollAwait
  | .iAwaitResponseAwait => some onIAwaitResponseAwait
  | .iSendFinalAwait => some onISendFinalAwait
  | .iSendFinalRepeatPause => some onISendFinalRepeatPause
  | .iSendFinalRepeatAwait => some onISendFinalRepeatAwait
  | .iIdleAwait => some onIIdleAwait
  | .rAwaitPollAwait => some onRAwaitPollAwait
  | .rSendResponseAwait => some onRSendResponseAwait
  | .rAwaitFinalAwait => some onRAwaitFinalAwait
  | .rAwaitFinalRepeatAwait => some onRAwaitFinalRepeatAwait
  | _ => none

/-- An action with a rule takes the event off the port and applies the rule. -/
theorem exec_of_eventRule {i : Instr} {f : Event → State → Res} (h : eventRule i = some f) (s : State) :
    exec i s = awaitEvent f s := by
  unfold eventRule at h
  split at h <;> cases h <;> rfl

/-- The event step of a block that is not stuck is the rule of the selected action. -/
theorem eventStep_of_eventRule {i : Instr} {f : Event → State → Res} (h : eventRule i = some f)
    {s : State} (hs : s.stuck = false) (hi : decodeSelector s.selector = .ok i) (ev : Event) :
    eventStep ev s = f ev s := by
  unfold eventRule at h
  split at h <;> cases h <;> simp [eventStep, hs, hi]

/-- Where the selected action has no rule, which is an ISSUE pair, the event is unexpected (R289; log 12). -/
theorem eventStep_of_no_eventRule {i : Instr} (h : eventRule i = none) {s : State} (hs : s.stuck = false)
    (hi : decodeSelector s.selector = .ok i) (ev : Event) : eventStep ev s = .next s.unexpected := by
  simp only [eventStep, hs, hi]
  cases i with
  | iSendPollAwait | iAwaitResponseAwait | iSendFinalAwait | iSendFinalRepeatPause
  | iSendFinalRepeatAwait | iIdleAwait | rAwaitPollAwait | rSendResponseAwait | rAwaitFinalAwait
  | rAwaitFinalRepeatAwait => cases h
  | _ => rfl

/-- All that an event step can be: FAULT set in a stuck block, the rule of the selected action, an unexpected
event. -/
theorem eventStep_cases (ev : Event) (s : State) :
    (s.stuck = true ∧ eventStep ev s = .next s.setFault) ∨
    s.stuck = false ∧ ∃ i, decodeSelector s.selector = .ok i ∧
      ((∃ f, eventRule i = some f ∧ eventStep ev s = f ev s) ∨
      (eventRule i = none ∧ eventStep ev s = .next s.unexpected)) := by
  cases hs : s.stuck with
  | true => exact .inl ⟨rfl, if_pos hs⟩
  | false =>
    obtain ⟨-, ⟨i, hi⟩, -⟩ := State.stuck_eq_false.1 hs
    refine .inr ⟨rfl, i, hi, ?_⟩
    cases hf : eventRule i with
    | some f => exact .inl ⟨f, rfl, eventStep_of_eventRule hf hs hi ev⟩
    | none => exact .inr ⟨rfl, eventStep_of_no_eventRule hf hs hi ev⟩

/-- The pairs that wait for an event (R33) are those whose action has a rule. -/
theorem eventRule_isSome_eq_waitsFor {ss : BitVec 6} {i : Instr} (hi : decodeSelector ss = .ok i) :
    (eventRule i).isSome = (waitsFor ss).isSome := by
  rcases decodeSelector_ok hi with h | h | h | h | h | h | h | h | h | h | h | h | h | h | h | h | h | h <;>
    obtain ⟨rfl, rfl⟩ := h <;> rfl

/-- At a pair that waits, the selected action is the event step on the event it takes off the port. -/
theorem exec_waiting {s : State} {i : Instr} (hs : s.stuck = false) (hw : waitsFor s.selector ≠ none)
    (hi : decodeSelector s.selector = .ok i) : exec i s = awaitEvent eventStep s := by
  have hsome : (eventRule i).isSome = true :=
    (eventRule_isSome_eq_waitsFor hi).trans (Option.isSome_iff_ne_none.2 hw)
  obtain ⟨f, hf⟩ := Option.isSome_iff_exists.1 hsome
  rw [exec_of_eventRule hf]
  cases ho : decodeEvent s.events with
  | error e => rw [awaitEvent_waits ho, awaitEvent_waits ho]
  | ok p =>
    obtain ⟨ev, rest⟩ := p
    rw [awaitEvent_offered ho, awaitEvent_offered ho]
    exact (eventStep_of_eventRule (s := { s with events := rest }) hf hs hi ev).symm

/-- The step of a running block that waits is the event step on the event at its port. -/
theorem step_waiting {s : State} (hr : Running s) (hw : waitsFor s.selector ≠ none) :
    step s = awaitEvent eventStep s := by
  obtain ⟨hs, hp⟩ := hr
  obtain ⟨-, ⟨i, hi⟩, -⟩ := State.stuck_eq_false.1 hs
  rw [step_selected hp hs hi, exec_waiting hs hw hi]

/-- Settles O49: action and EV row are two names of the event step (log 13). -/
theorem eventStepConsumesOne : Obligations.EventStepConsumesOne := by
  unfold Obligations.EventStepConsumesOne
  intro s hr hw
  refine ⟨?_, ?_⟩
  · intro ev i rest ho hi
    rw [step_waiting hr hw, awaitEvent_offered ho, exec_row_of_offered _ ho hi]
  · intro e he
    rw [step_waiting hr hw, awaitEvent_waits he]

/-! ### No step stops (R10, R160, R282) -/

theorem goes_next (s : State) : Goes (.next s) := ⟨s, rfl⟩

theorem goes_ite {c : Prop} [Decidable c] {a b : Res} (ha : Goes a) (hb : Goes b) :
    Goes (if c then a else b) := by
  split
  · exact ha
  · exact hb

/-- TXBUF has room for every frame the block encodes, so sending one is no fault (R61). -/
theorem State.sendFrame_goes (s : State) (mode : TxMode) (rxa : Bool) (rxto : RxTimeout) (dly : U32)
    {frame : List Byte} (st : BitVec 4) (h : frame.length ≤ txbufSize) :
    Goes (s.sendFrame mode rxa rxto dly frame st) :=
  ⟨_, s.sendFrame_next mode rxa rxto dly st h⟩

theorem execISendPollIssue_goes (s : State) : Goes (execISendPollIssue s) :=
  State.sendFrame_goes _ _ _ _ _ _ (by simp [txbufSize])

theorem execISendFinalIssue_goes (s : State) : Goes (execISendFinalIssue s) :=
  goes_ite (State.sendFrame_goes _ _ _ _ _ _ (by simp [txbufSize])) (goes_next _)

theorem execRSendResponseIssue_goes (s : State) : Goes (execRSendResponseIssue s) :=
  State.sendFrame_goes _ _ _ _ _ _ (by simp [txbufSize])

/-- The repeated Final is the one frame that an event's rule sends (R156). -/
theorem onISendFinalRepeatPause_goes (ev : Event) (s : State) : Goes (onISendFinalRepeatPause ev s) := by
  cases ev with
  | delayDone => exact goes_ite (State.sendFrame_goes _ _ _ _ _ _ (by simp [txbufSize])) (goes_next _)
  | _ => exact goes_next _

theorem onRAwaitFinalRepeatAwait_goes (ev : Event) (s : State) :
    Goes (onRAwaitFinalRepeatAwait ev s) := by
  cases ev with
  | rxGood ts f =>
    unfold onRAwaitFinalRepeatAwait
    refine goes_ite ?_ (goes_next _)
    split <;> exact goes_next _
  | _ => exact goes_next _

/-- Every rule answers a next state, whatever event is offered. -/
theorem eventRule_goes {i : Instr} {f : Event → State → Res} (h : eventRule i = some f) (ev : Event)
    (s : State) : Goes (f ev s) := by
  cases i with
  | iSendFinalRepeatPause =>
    cases h
    exact onISendFinalRepeatPause_goes ev s
  | rAwaitFinalRepeatAwait =>
    cases h
    exact onRAwaitFinalRepeatAwait_goes ev s
  | iAwaitResponseAwait | rAwaitPollAwait | rAwaitFinalAwait =>
    cases h
    cases ev with
    | rxGood ts data => exact goes_ite (goes_next _) (goes_next _)
    | _ => exact goes_next _
  | iSendPollAwait | iSendFinalAwait | iSendFinalRepeatAwait | iIdleAwait | rSendResponseAwait =>
    cases h
    cases ev <;> exact goes_next _
  | _ => cases h

theorem awaitEvent_goes {f : Event → State → Res} (h : ∀ ev t, Goes (f ev t)) (s : State) :
    Goes (awaitEvent f s) := by
  unfold awaitEvent
  split
  · exact h _ _
  · exact goes_next _

theorem eventStep_goes (ev : Event) (s : State) : Goes (eventStep ev s) := by
  rcases eventStep_cases ev s with ⟨-, h⟩ | ⟨-, i, -, ⟨f, hf, h⟩ | ⟨-, h⟩⟩ <;> rw [h]
  · exact goes_next _
  · exact eventRule_goes hf ev s
  · exact goes_next _

theorem receiveBytes_goes (f : List Byte) (s : State) : Goes (receiveBytes f s) :=
  goes_ite (eventStep_goes _ _) (goes_next _)

theorem exec_goes_of_eventRule {i : Instr} {f : Event → State → Res} (h : eventRule i = some f)
    (s : State) : Goes (exec i s) := by
  rw [exec_of_eventRule h]
  exact awaitEvent_goes (eventRule_goes h) s

/-- Every row of the table answers a next state. -/
theorem exec_goes (i : Instr) (s : State) : Goes (exec i s) := by
  cases i with
  | framePoll | frameResponse | frameFinal => exact eventStep_goes _ _
  | evTxDone | evTxErr | evRxTimeout | evRxErr | evDelayDone => exact eventStep_goes _ _
  | evRxGood => exact goes_ite (eventStep_goes _ _) (goes_next _)
  | iSendPollIssue => exact execISendPollIssue_goes s
  | iSendFinalIssue => exact execISendFinalIssue_goes s
  | rSendResponseIssue => exact execRSendResponseIssue_goes s
  | rComputeIssue | cmdTx => exact goes_ite (goes_next _) (goes_next _)
  | iSendPollAwait | iAwaitResponseAwait | iSendFinalAwait | iSendFinalRepeatPause
  | iSendFinalRepeatAwait | iIdleAwait | rAwaitPollAwait | rSendResponseAwait | rAwaitFinalAwait
  | rAwaitFinalRepeatAwait => exact exec_goes_of_eventRule rfl s
  | _ => exact goes_next _

/-- The block's own step, with the probe port empty. -/
theorem step_goes_of_probe_none {s : State} (hp : s.probe = none) : Goes (step s) := by
  rcases step_cases s with ⟨i, -, -, -, h⟩ | ⟨-, -, h⟩ | ⟨p, hq, -⟩
  · rw [h]
    exact exec_goes i s
  · rw [h]
    exact goes_next _
  · rw [hp] at hq
    cases hq

/-- Settles O50: a step is a row of the table, the step of a stuck block, or one of the answers to a word on the
probe port, and none of them stops. -/
theorem stepNeverStops : Obligations.StepNeverStops := by
  unfold Obligations.StepNeverStops
  intro s
  rcases step_cases s with ⟨i, -, -, -, h⟩ | ⟨-, -, h⟩ | ⟨p, -, s0, rfl, h⟩
  · rw [h]
    exact exec_goes i s
  · rw [h]
    exact goes_next _
  · rcases h with ⟨i, r, -, -, -, h⟩ | ⟨b, bs, -, h⟩ | ⟨-, -, h⟩ | ⟨c, r, -, -, h⟩ | ⟨-, -, h⟩ <;>
      rw [h]
    · exact exec_goes i _
    · exact step_goes_of_probe_none rfl
    · exact receiveBytes_goes _ _
    · exact eventStep_goes _ _
    · exact goes_next _

end Sys2Proof.Machine
end

section
/-! What one step of the block can do, once for all the invariants: the outcomes of an ISSUE action, of an event's
rule, and of the step (R11, R33). -/

namespace Sys2Proof.Machine

open Sys2Proof

/-! ### Frames into TXBUF (R40) -/

/-- TXBUF and TXLEN after a whole frame. -/
def State.storeTx (s : State) (frame : List Byte) : State :=
  { s with txbuf := Memory.writeFrom s.txbuf 0 frame, txlen := BitVec.ofNat 5 frame.length }

@[simp] theorem State.storeTx_state (s : State) (frame : List Byte) : (s.storeTx frame).state = s.state := rfl
@[simp] theorem State.storeTx_phase (s : State) (frame : List Byte) : (s.storeTx frame).phase = s.phase := rfl
@[simp] theorem State.storeTx_seq (s : State) (frame : List Byte) : (s.storeTx frame).seq = s.seq := rfl
@[simp] theorem State.storeTx_cfgRole (s : State) (frame : List Byte) : (s.storeTx frame).cfgRole = s.cfgRole := rfl
@[simp] theorem State.storeTx_cfgAntDly (s : State) (frame : List Byte) :
    (s.storeTx frame).cfgAntDly = s.cfgAntDly := rfl
@[simp] theorem State.storeTx_status (s : State) (frame : List Byte) : (s.storeTx frame).status = s.status := rfl
@[simp] theorem State.storeTx_t0 (s : State) (frame : List Byte) : (s.storeTx frame).t0 = s.t0 := rfl
@[simp] theorem State.storeTx_t1 (s : State) (frame : List Byte) : (s.storeTx frame).t1 = s.t1 := rfl
@[simp] theorem State.storeTx_t2 (s : State) (frame : List Byte) : (s.storeTx frame).t2 = s.t2 := rfl
@[simp] theorem State.storeTx_t3 (s : State) (frame : List Byte) : (s.storeTx frame).t3 = s.t3 := rfl
@[simp] theorem State.storeTx_t4 (s : State) (frame : List Byte) : (s.storeTx frame).t4 = s.t4 := rfl
@[simp] theorem State.storeTx_t5 (s : State) (frame : List Byte) : (s.storeTx frame).t5 = s.t5 := rfl
@[simp] theorem State.storeTx_t6 (s : State) (frame : List Byte) : (s.storeTx frame).t6 = s.t6 := rfl
@[simp] theorem State.storeTx_e0 (s : State) (frame : List Byte) : (s.storeTx frame).e0 = s.e0 := rfl
@[simp] theorem State.storeTx_e1 (s : State) (frame : List Byte) : (s.storeTx frame).e1 = s.e1 := rfl
@[simp] theorem State.storeTx_e2 (s : State) (frame : List Byte) : (s.storeTx frame).e2 = s.e2 := rfl
@[simp] theorem State.storeTx_valid (s : State) (frame : List Byte) : (s.storeTx frame).valid = s.valid := rfl
@[simp] theorem State.storeTx_params (s : State) (frame : List Byte) : (s.storeTx frame).params = s.params := rfl
@[simp] theorem State.storeTx_trace (s : State) (frame : List Byte) : (s.storeTx frame).trace = s.trace := rfl
@[simp] theorem State.storeTx_events (s : State) (frame : List Byte) : (s.storeTx frame).events = s.events := rfl
@[simp] theorem State.storeTx_env (s : State) (frame : List Byte) : (s.storeTx frame).env = s.env := rfl
@[simp] theorem State.storeTx_unitOut (s : State) (frame : List Byte) : (s.storeTx frame).unitOut = s.unitOut := rfl
@[simp] theorem State.storeTx_probe (s : State) (frame : List Byte) : (s.storeTx frame).probe = s.probe := rfl
@[simp] theorem State.storeTx_draws (s : State) (frame : List Byte) : (s.storeTx frame).draws = s.draws := rfl
@[simp] theorem State.storeTx_txbuf (s : State) (frame : List Byte) :
    (s.storeTx frame).txbuf = Memory.writeFrom s.txbuf 0 frame := rfl
@[simp] theorem State.storeTx_txlen (s : State) (frame : List Byte) :
    (s.storeTx frame).txlen = BitVec.ofNat 5 frame.length := rfl

/-- Sending a frame that fits is: store it, emit a TX command with some bytes, wait. -/
theorem State.sendFrame_inv {s s' : State} {mode : TxMode} {rxa : Bool} {rxto : RxTimeout} {dly : U32}
    {frame : List Byte} {st : BitVec 4} (hf : frame.length ≤ txbufSize)
    (h : s.sendFrame mode rxa rxto dly frame st = .next s') :
    ∃ data, s' = ((s.storeTx frame).emit (.tx mode rxa rxto dly data)).goto st phAwait := by
  rw [State.sendFrame_next s mode rxa rxto dly st hf] at h
  cases h
  exact ⟨_, rfl⟩

/-! ### The outcomes of an ISSUE action -/

/-- What the action of an ISSUE pair answers: `Issues ss s s'` for the action at selector `ss` run in `s`. -/
inductive Issues : BitVec 6 → State → State → Prop where
  /-- R150 -/
  | sendPoll {s} (data) : Issues 0x00#6 s
      (((s.clearInitiator.storeTx (encodePoll s.params s.seq)).emit
        (.tx .immediate true .resp 0#32 data)).goto stISendPoll phAwait)
  /-- R153: T2 holds the predicted time -/
  | sendFinal {s frame} (a data) (hv : s.validAll [.t0, .t1] = true) (hf : frame.length = 22) : Issues 0x08#6 s
      ((((s.writeT .t2 (predictFinalTx a s.cfgAntDly)).storeTx frame).emit
        (.tx s.params.finalTxMode false .noTimeout a data)).goto stISendFinal phAwait)
  /-- R291 at R153 -/
  | finalInvalid {s} (hv : ¬s.validAll [.t0, .t1] = true) : Issues 0x08#6 s s.setFault
  /-- R155 -/
  | pause {s} : Issues 0x0C#6 s ((s.emit (.wait .finalRepeatPause)).goto stISendFinalRepeat phPause)
  /-- R158 -/
  | idle {s} : Issues 0x10#6 s ((s.emit (.wait .interRanging)).goto stIIdle phAwait)
  /-- R180 -/
  | awaitPoll {s} : Issues 0x20#6 s ((s.clearResponder.emit (.armRx .noTimeout)).goto stRAwaitPoll phAwait)
  /-- R182 -/
  | sendResponse {s} (data) : Issues 0x24#6 s
      (((s.storeTx (encodeResponse s.params s.seq)).emit (.tx .immediate true .final 0#32 data)).goto
        stRSendResponse phAwait)
  /-- R185 -/
  | rearm {s} : Issues 0x2C#6 s ((s.emit (.armRx .noTimeout)).goto stRAwaitFinalRepeat phAwait)
  /-- R187 -/
  | compute {s} (r) (hv : s.validE = true ∧ s.validAll [.t3, .t4, finalRxReg s.params.finalRxSource] = true) :
      Issues 0x30#6 s ((s.putResult r).goto stRAwaitPoll phIssue)
  /-- R291 at R187 -/
  | computeInvalid {s}
      (hv : ¬(s.validE = true ∧ s.validAll [.t3, .t4, finalRxReg s.params.finalRxSource] = true)) :
      Issues 0x30#6 s s.setFault

theorem execISendPollIssue_issues {s s' : State} (h : execISendPollIssue s = .next s') :
    Issues 0x00#6 s s' := by
  obtain ⟨data, rfl⟩ := State.sendFrame_inv (by simp [txbufSize]) h
  exact .sendPoll data

theorem execISendFinalIssue_issues {s s' : State} (h : execISendFinalIssue s = .next s') :
    Issues 0x08#6 s s' := by
  unfold execISendFinalIssue at h
  split at h
  · next hv =>
    obtain ⟨data, rfl⟩ := State.sendFrame_inv (by simp [txbufSize]) h
    exact .sendFinal _ data hv (by simp)
  · next hv =>
    cases h
    exact .finalInvalid hv

theorem execRSendResponseIssue_issues {s s' : State} (h : execRSendResponseIssue s = .next s') :
    Issues 0x24#6 s s' := by
  obtain ⟨data, rfl⟩ := State.sendFrame_inv (by simp [txbufSize]) h
  exact .sendResponse data

theorem execRComputeIssue_issues {s s' : State} (h : execRComputeIssue s = .next s') :
    Issues 0x30#6 s s' := by
  unfold execRComputeIssue at h
  simp only [Bool.and_eq_true] at h
  split at h
  · next hv =>
    cases h
    exact .compute _ hv
  · next hv =>
    cases h
    exact .computeInvalid hv

/-- The selected action without a rule for events is one of the eight of the ISSUE pairs. -/
theorem exec_issues {ss : BitVec 6} {i : Instr} {s s' : State} (hi : decodeSelector ss = .ok i)
    (hf : eventRule i = none) (h : exec i s = .next s') : Issues ss s s' := by
  rcases decodeSelector_ok hi with e | e | e | e | e | e | e | e | e | e | e | e | e | e | e | e | e | e <;>
    obtain ⟨rfl, rfl⟩ := e <;> cases hf
  · exact execISendPollIssue_issues h
  · exact execISendFinalIssue_issues h
  · cases h
    exact .pause
  · cases h
    exact .idle
  · cases h
    exact .awaitPoll
  · exact execRSendResponseIssue_issues h
  · cases h
    exact .rearm
  · exact execRComputeIssue_issues h

/-! ### The outcomes of an event's rule -/

/-- What the rule of an AWAIT or PAUSE pair answers to an event: `Reacts ss ev s s'` for the rule at selector
`ss` on `ev` in `s`, the event being off the port. -/
inductive Reacts : BitVec 6 → Event → State → State → Prop where
  /-- R289 -/
  | unexpected {ss ev s} : Reacts ss ev s s.unexpected
  /-- R283 at a TX or RX pair; SEQ may have been counted before (R184, R186) -/
  | failed {ss ev s t} (k) (hc : eventClass ev = waitsFor ss) (hp : waitsFor ss = some .tx ∨ waitsFor ss = some .rx)
      (ht : t = s.answered ev ∨ t = (s.answered ev).incSeq) : Reacts ss ev s (t.fail k (restartState ss))
  /-- R151 -/
  | pollSent {s} (ts) : Reacts 0x01#6 (.txDone ts) s
      ((((s.answered (.txDone ts)).writeT .t0 (widen40To64 ts)).incSeq).goto stIAwaitResponse phAwait)
  /-- R152 -/
  | responseReceived {s} (ts f) : Reacts 0x05#6 (.rxGood ts f) s
      (((s.answered (.rxGood ts f)).writeT .t1 (widen40To64 ts)).goto stISendFinal phIssue)
  /-- R154 -/
  | finalSent {s} (ts) : Reacts 0x09#6 (.txDone ts) s
      ((((s.answered (.txDone ts)).writeT .t2 (widen40To64 ts)).incSeq).goto stISendFinalRepeat phIssue)
  /-- R156 -/
  | pauseOver {s frame} (data) (hv : s.validAll [.t0, .t1, .t2] = true) (hf : frame.length = 22) :
      Reacts 0x0E#6 .delayDone s
        ((((s.answered .delayDone).storeTx frame).emit (.tx .immediate false .noTimeout 0#32 data)).goto
          stISendFinalRepeat phAwait)
  /-- R291 at R156 -/
  | pauseInvalid {s} (hv : ¬s.validAll [.t0, .t1, .t2] = true) : Reacts 0x0E#6 .delayDone s s.setFault
  /-- R157 -/
  | repeatSent {s} (ts) : Reacts 0x0D#6 (.txDone ts) s
      (((s.answered (.txDone ts)).incSeq).goto stIIdle phIssue)
  /-- R159 -/
  | idleOver {s} : Reacts 0x11#6 .delayDone s ((s.answered .delayDone).goto stISendPoll phIssue)
  /-- R181 -/
  | pollReceived {s} (ts f) : Reacts 0x21#6 (.rxGood ts f) s
      (((s.answered (.rxGood ts f)).writeT .t3 (widen40To64 ts)).goto stRSendResponse phIssue)
  /-- R183 -/
  | responseSent {s} (ts) : Reacts 0x25#6 (.txDone ts) s
      ((((s.answered (.txDone ts)).writeT .t4 (widen40To64 ts)).incSeq).goto stRAwaitFinal phAwait)
  /-- R184 -/
  | finalReceived {s} (ts f) : Reacts 0x29#6 (.rxGood ts f) s
      ((((s.answered (.rxGood ts f)).incSeq).writeT .t5 (widen40To64 ts)).goto stRAwaitFinalRepeat phIssue)
  /-- R186 -/
  | repeatReceived {s} (ts f a b c) : Reacts 0x2D#6 (.rxGood ts f) s
      (((((s.answered (.rxGood ts f)).incSeq).writeEmbedded a b c).writeT .t6 (widen40To64 ts)).goto
        stRCompute phIssue)

theorem onISendPollAwait_reacts {ev : Event} {s s' : State} (h : onISendPollAwait ev s = .next s') :
    Reacts 0x01#6 ev s s' := by
  cases ev <;> cases h
  case txDone ts => exact .pollSent ts
  case txErr => exact .failed _ rfl (.inl rfl) (.inl rfl)
  all_goals exact .unexpected

theorem onIAwaitResponseAwait_reacts {ev : Event} {s s' : State}
    (h : onIAwaitResponseAwait ev s = .next s') : Reacts 0x05#6 ev s s' := by
  cases ev with
  | rxGood ts f =>
    simp only [onIAwaitResponseAwait] at h
    split at h <;> cases h
    · exact .responseReceived ts f
    · exact .failed _ rfl (.inr rfl) (.inl rfl)
  | rxTimeout | rxErr =>
    cases h
    exact .failed _ rfl (.inr rfl) (.inl rfl)
  | _ =>
    cases h
    exact .unexpected

theorem onISendFinalAwait_reacts {ev : Event} {s s' : State} (h : onISendFinalAwait ev s = .next s') :
    Reacts 0x09#6 ev s s' := by
  cases ev <;> cases h
  case txDone ts => exact .finalSent ts
  case txErr => exact .failed _ rfl (.inl rfl) (.inl rfl)
  all_goals exact .unexpected

theorem onISendFinalRepeatPause_reacts {ev : Event} {s s' : State}
    (h : onISendFinalRepeatPause ev s = .next s') : Reacts 0x0E#6 ev s s' := by
  cases ev with
  | delayDone =>
    simp only [onISendFinalRepeatPause] at h
    split at h
    · next hv =>
      obtain ⟨data, rfl⟩ := State.sendFrame_inv (by simp [txbufSize]) h
      exact .pauseOver data hv (by simp)
    · next hv =>
      cases h
      exact .pauseInvalid hv
  | _ =>
    cases h
    exact .unexpected

theorem onISendFinalRepeatAwait_reacts {ev : Event} {s s' : State}
    (h : onISendFinalRepeatAwait ev s = .next s') : Reacts 0x0D#6 ev s s' := by
  cases ev <;> cases h
  case txDone ts => exact .repeatSent ts
  case txErr => exact .failed _ rfl (.inl rfl) (.inl rfl)
  all_goals exact .unexpected

theorem onIIdleAwait_reacts {ev : Event} {s s' : State} (h : onIIdleAwait ev s = .next s') :
    Reacts 0x11#6 ev s s' := by
  cases ev <;> cases h
  case delayDone => exact .idleOver
  all_goals exact .unexpected

theorem onRAwaitPollAwait_reacts {ev : Event} {s s' : State} (h : onRAwaitPollAwait ev s = .next s') :
    Reacts 0x21#6 ev s s' := by
  cases ev with
  | rxGood ts f =>
    simp only [onRAwaitPollAwait] at h
    split at h <;> cases h
    · exact .pollReceived ts f
    · exact .failed _ rfl (.inr rfl) (.inl rfl)
  | rxTimeout | rxErr =>
    cases h
    exact .failed _ rfl (.inr rfl) (.inl rfl)
  | _ =>
    cases h
    exact .unexpected

theorem onRSendResponseAwait_reacts {ev : Event} {s s' : State}
    (h : onRSendResponseAwait ev s = .next s') : Reacts 0x25#6 ev s s' := by
  cases ev <;> cases h
  case txDone ts => exact .responseSent ts
  case txErr => exact .failed _ rfl (.inl rfl) (.inl rfl)
  all_goals exact .unexpected

theorem onRAwaitFinalAwait_reacts {ev : Event} {s s' : State} (h : onRAwaitFinalAwait ev s = .next s') :
    Reacts 0x29#6 ev s s' := by
  cases ev with
  | rxGood ts f =>
    simp only [onRAwaitFinalAwait] at h
    split at h <;> cases h
    · exact .finalReceived ts f
    · exact .failed _ rfl (.inr rfl) (.inr rfl)
  | rxTimeout | rxErr =>
    cases h
    exact .failed _ rfl (.inr rfl) (.inr rfl)
  | _ =>
    cases h
    exact .unexpected

theorem onRAwaitFinalRepeatAwait_reacts {ev : Event} {s s' : State}
    (h : onRAwaitFinalRepeatAwait ev s = .next s') : Reacts 0x2D#6 ev s s' := by
  cases ev with
  | rxGood ts f =>
    simp only [onRAwaitFinalRepeatAwait] at h
    split at h
    · split at h <;> cases h
      · exact .failed _ rfl (.inr rfl) (.inr rfl)
      · exact .repeatReceived ts f _ _ _
    · cases h
      exact .failed _ rfl (.inr rfl) (.inr rfl)
  | rxTimeout | rxErr =>
    cases h
    exact .failed _ rfl (.inr rfl) (.inr rfl)
  | _ =>
    cases h
    exact .unexpected

/-- The rule of the selected action answers one of the outcomes at its selector. -/
theorem eventRule_reacts {ss : BitVec 6} {i : Instr} {f : Event → State → Res} {ev : Event} {s s' : State}
    (hi : decodeSelector ss = .ok i) (hf : eventRule i = some f) (h : f ev s = .next s') :
    Reacts ss ev s s' := by
  rcases decodeSelector_ok hi with e | e | e | e | e | e | e | e | e | e | e | e | e | e | e | e | e | e <;>
    obtain ⟨rfl, rfl⟩ := e <;> cases hf
  · exact onISendPollAwait_reacts h
  · exact onIAwaitResponseAwait_reacts h
  · exact onISendFinalAwait_reacts h
  · exact onISendFinalRepeatPause_reacts h
  · exact onISendFinalRepeatAwait_reacts h
  · exact onIIdleAwait_reacts h
  · exact onRAwaitPollAwait_reacts h
  · exact onRSendResponseAwait_reacts h
  · exact onRAwaitFinalAwait_reacts h
  · exact onRAwaitFinalRepeatAwait_reacts h

/-! ### The outcomes of a state action and of the block's own step -/

/-- What the action at a selector answers: the outcome of an ISSUE action, the same state where no event is
offered, or the reaction to the event taken off the port. -/
theorem exec_selected_cases {ss : BitVec 6} {i : Instr} {s s' : State} (hi : decodeSelector ss = .ok i)
    (h : exec i s = .next s') :
    Issues ss s s' ∨ s' = s ∨ ∃ ev rest, Reacts ss ev { s with events := rest } s' := by
  cases hf : eventRule i with
  | none => exact .inl (exec_issues hi hf h)
  | some f =>
    rw [exec_of_eventRule hf] at h
    cases ho : decodeEvent s.events with
    | error e =>
      rw [awaitEvent_waits ho] at h
      cases h
      exact .inr (.inl rfl)
    | ok p =>
      obtain ⟨ev, rest⟩ := p
      rw [awaitEvent_offered ho] at h
      exact .inr (.inr ⟨ev, rest, eventRule_reacts hi hf h⟩)

/-- What the step of a running block answers. -/
theorem step_running_cases {s s' : State} (hr : Running s) (h : step s = .next s') :
    Issues s.selector s s' ∨ s' = s ∨ ∃ ev rest, Reacts s.selector ev { s with events := rest } s' := by
  obtain ⟨hs, hp⟩ := hr
  obtain ⟨-, ⟨i, hi⟩, -⟩ := State.stuck_eq_false.1 hs
  rw [step_selected hp hs hi] at h
  exact exec_selected_cases hi h

/-- What an event step answers: FAULT set, or a reaction at the block's own pair. -/
theorem eventStep_reacts {ev : Event} {s s' : State} (h : eventStep ev s = .next s') :
    s' = s.setFault ∨ Reacts s.selector ev s s' := by
  rcases eventStep_cases ev s with ⟨-, e⟩ | ⟨-, i, hi, ⟨f, hf, e⟩ | ⟨-, e⟩⟩ <;> rw [e] at h
  · cases h
    exact .inl rfl
  · exact .inr (eventRule_reacts hi hf h)
  · cases h
    exact .inr .unexpected

/-- The own step of a stuck block (R290). -/
theorem step_stuck {s : State} (hp : s.probe = none) (hs : s.stuck = true) : step s = .next s.stuckStep := by
  apply step_of_fetch_answer
  rw [fetch_of_probe_none hp]
  simp [fetchSelected, State.selected, hs]

/-- A stuck block's step sets FAULT and nothing else but the event port, or does nothing. -/
theorem State.stuckStep_cases (s : State) :
    s.stuckStep = s ∨ ∃ rest, s.stuckStep = { s with events := rest }.setFault := by
  unfold State.stuckStep
  split
  · cases h : s.takeEvent with
    | none => exact .inl rfl
    | some p =>
      obtain ⟨rest, -, he⟩ := State.takeEvent_eq_some.1 h
      exact .inr ⟨rest, congrArg State.setFault he⟩
  · exact .inr ⟨s.events, rfl⟩

end Sys2Proof.Machine
end

section
/-! The invariants of a running block (10_state.md R46, R47, R49; 60_exceptions.md R290): settles O54, O55, O56
and O59 from the outcomes of a step. -/

namespace Sys2Proof.Machine

open Sys2Proof

/-! ### The pair and its role (R33, R90) -/

/-- STATE[3], which is bit 5 of the selector, is the role. -/
theorem State.role_bit_iff (s : State) :
    s.state.getLsbD 3 = s.cfgRole.getLsbD 0 ↔ s.cfgRole = s.selector.extractLsb' 5 1 := by
  have h : s.selector.extractLsb' 5 1 = s.state.extractLsb' 3 1 := extract_append_hi s.state s.phase (by decide)
  have hall : ∀ (a : BitVec 4) (r : BitVec 1), a.getLsbD 3 = r.getLsbD 0 ↔ r = a.extractLsb' 3 1 := by decide
  rw [h]
  exact hall s.state s.cfgRole

theorem running_iff {s : State} : Running s ↔
    faultBit s.status = false ∧ (∃ i, decodeSelector s.selector = .ok i) ∧
      s.cfgRole = s.selector.extractLsb' 5 1 ∧ s.probe = none := by
  simp only [Running, State.stuck_eq_false, State.role_bit_iff, and_assoc]

/-- The role of a running block, from its selector. -/
theorem Running.role {s : State} {ss : BitVec 6} (hr : Running s) (hss : s.selector = ss) :
    s.cfgRole = ss.extractLsb' 5 1 := by
  obtain ⟨-, -, hrole, -⟩ := running_iff.1 hr
  rw [hrole, hss]

/-- The restart target of a failure is an ISSUE pair of the same role that reads no register (R281, R284). -/
theorem restartState_pair {ss : BitVec 6} (h : waitsFor ss = some .tx ∨ waitsFor ss = some .rx) :
    (restartState ss ++ phIssue = 0x00#6 ∨ restartState ss ++ phIssue = 0x10#6 ∨
      restartState ss ++ phIssue = 0x20#6) ∧
    (restartState ss ++ phIssue).extractLsb' 5 1 = ss.extractLsb' 5 1 := by
  revert ss
  decide

/-! ### FAULT is set by nothing but `setFault` (R41) -/

@[simp] theorem faultBit_withEvUnexp (st : BitVec 8) : faultBit (withEvUnexp st) = faultBit st := by
  simp [faultBit, withEvUnexp]

@[simp] theorem faultBit_withLastErr (st : BitVec 8) (k : FailKind) :
    faultBit (withLastErr st k) = faultBit st := by
  cases k <;> simp [faultBit, withLastErr, failCode]

/-! ### Bits of VALID (R38, R49) -/

theorem valid_mono {v m m' : BitVec 8} (h : v &&& m = m) (hm : m &&& m' = m') : v &&& m' = m' := by
  rw [← hm, ← BitVec.and_assoc, h]

/-- Setting a bit adds it to what is known to be set. -/
theorem withValid_and {v m : BitVec 8} (i : Nat) (h : v &&& m = m) :
    withValid v i &&& withValid m i = withValid m i := by
  unfold withValid
  grind

theorem State.validT_of_and {s : State} {m : BitVec 8} (h : s.valid &&& m = m) {r : TReg}
    (hm : m.getLsbD (tIndex r) = true) : s.validT r = true := by
  rw [← h, BitVec.getLsbD_and, Bool.and_eq_true] at hm
  exact hm.1

theorem State.validAll_of_and {s : State} {m : BitVec 8} (h : s.valid &&& m = m) {rs : List TReg}
    (hm : (rs.all fun r => m.getLsbD (tIndex r)) = true) : s.validAll rs = true := by
  rw [List.all_eq_true] at hm
  exact List.all_eq_true.2 fun r hr => State.validT_of_and h (hm r hr)

theorem State.validE_of_and {s : State} {m : BitVec 8} (h : s.valid &&& m = m)
    (hm : m.getLsbD embeddedIndex = true) : s.validE = true := by
  rw [← h, BitVec.getLsbD_and, Bool.and_eq_true] at hm
  exact hm.1

/-! ### Running and captured (R49, R290, R291) -/

@[simp] theorem State.goto_selector (s : State) (st : BitVec 4) (ph : BitVec 2) :
    (s.goto st ph).selector = st ++ ph := rfl

@[simp] theorem State.unexpected_selector (s : State) : s.unexpected.selector = s.selector := rfl

/-- One arrow from pair to pair: what is left to show is that the target's bits of VALID are set. -/
theorem running_captured_of_move {s t : State} {st : BitVec 4} {ph : BitVec 2} {ss : BitVec 6} (ss' : BitVec 6)
    (hr : Running s) (hss : s.selector = ss) (hv : t.valid &&& validAt ss' = validAt ss')
    (hss' : st ++ ph = ss' := by decide) (hi : ∃ i, decodeSelector ss' = .ok i := by exact ⟨_, rfl⟩)
    (hrole : ss'.extractLsb' 5 1 = ss.extractLsb' 5 1 := by decide)
    (hf : faultBit t.status = faultBit s.status := by simp) (hcfg : t.cfgRole = s.cfgRole := by simp)
    (hprobe : t.probe = s.probe := by simp) : Running (t.goto st ph) ∧ Captured (t.goto st ph) := by
  obtain ⟨hfault, -, hr', hp⟩ := running_iff.1 hr
  subst hss hss'
  refine ⟨running_iff.2 ⟨hf.trans hfault, hi, ?_, hprobe.trans hp⟩, hv⟩
  rw [State.goto_cfgRole, State.goto_selector, hcfg, hr', hrole]

/-- The failure path leads to a pair at which nothing is read. -/
theorem State.fail_running_captured {s t : State} {k : FailKind} {ss : BitVec 6} (hr : Running s)
    (hss : s.selector = ss) (hp : waitsFor ss = some .tx ∨ waitsFor ss = some .rx)
    (hf : t.status = s.status) (hcfg : t.cfgRole = s.cfgRole) (hprobe : t.probe = s.probe) :
    Running (t.fail k (restartState ss)) ∧ Captured (t.fail k (restartState ss)) := by
  obtain ⟨hpair, hrole⟩ := restartState_pair hp
  have hlegal : (∃ i, decodeSelector (restartState ss ++ phIssue) = .ok i) ∧
      validAt (restartState ss ++ phIssue) = 0#8 := by
    rcases hpair with h | h | h <;> rw [h] <;> exact ⟨⟨_, rfl⟩, rfl⟩
  obtain ⟨hi, hv⟩ := hlegal
  refine running_captured_of_move (restartState ss ++ phIssue) hr hss (by rw [hv, BitVec.and_zero]) rfl hi
    hrole (by simp [hf]) hcfg hprobe

/-- An ISSUE action finds its registers valid and leads to the pair it waits in. -/
theorem Issues.running_captured {ss : BitVec 6} {s s' : State} (h : Issues ss s s') (hss : s.selector = ss)
    (hr : Running s) (hc : s.valid &&& validAt ss = validAt ss) : Running s' ∧ Captured s' := by
  cases h with
  | sendPoll => exact running_captured_of_move 0x01#6 hr hss BitVec.and_zero
  | sendFinal a data hv hf =>
    exact running_captured_of_move 0x09#6 hr hss (valid_mono (withValid_and 2 hc) (by decide))
  | finalInvalid hv => exact absurd (State.validAll_of_and hc rfl) hv
  | pause => exact running_captured_of_move 0x0E#6 hr hss hc
  | idle => exact running_captured_of_move 0x11#6 hr hss BitVec.and_zero
  | awaitPoll => exact running_captured_of_move 0x21#6 hr hss BitVec.and_zero
  | sendResponse => exact running_captured_of_move 0x25#6 hr hss hc
  | rearm => exact running_captured_of_move 0x2D#6 hr hss hc
  | compute => exact running_captured_of_move 0x20#6 hr hss BitVec.and_zero
  | computeInvalid hv =>
    refine absurd ⟨State.validE_of_and hc rfl, State.validAll_of_and hc ?_⟩ hv
    cases s.params.finalRxSource <;> rfl

/-- A rule finds its registers valid, and each timestamp it captures is one the next pair may read. -/
theorem Reacts.running_captured {ss : BitVec 6} {ev : Event} {s s' : State} (h : Reacts ss ev s s')
    (hss : s.selector = ss) (hr : Running s) (hc : s.valid &&& validAt ss = validAt ss) :
    Running s' ∧ Captured s' := by
  cases h with
  | unexpected =>
    subst hss
    exact ⟨running_iff.2 (by simpa using running_iff.1 hr), hc⟩
  | failed k hcl hp ht =>
    rcases ht with rfl | rfl <;> exact State.fail_running_captured hr hss hp rfl rfl rfl
  | pollSent => exact running_captured_of_move 0x05#6 hr hss (valid_mono (withValid_and 0 hc) (by decide))
  | responseReceived =>
    exact running_captured_of_move 0x08#6 hr hss (valid_mono (withValid_and 1 hc) (by decide))
  | finalSent => exact running_captured_of_move 0x0C#6 hr hss (valid_mono (withValid_and 2 hc) (by decide))
  | pauseOver => exact running_captured_of_move 0x0D#6 hr hss hc
  | pauseInvalid hv => exact absurd (State.validAll_of_and hc rfl) hv
  | repeatSent => exact running_captured_of_move 0x10#6 hr hss BitVec.and_zero
  | idleOver => exact running_captured_of_move 0x00#6 hr hss BitVec.and_zero
  | pollReceived =>
    exact running_captured_of_move 0x24#6 hr hss (valid_mono (withValid_and 3 hc) (by decide))
  | responseSent =>
    exact running_captured_of_move 0x29#6 hr hss (valid_mono (withValid_and 4 hc) (by decide))
  | finalReceived =>
    exact running_captured_of_move 0x2C#6 hr hss (valid_mono (withValid_and 5 hc) (by decide))
  | repeatReceived =>
    exact running_captured_of_move 0x30#6 hr hss
      (valid_mono (withValid_and 6 (withValid_and 7 hc)) (by decide))

/-- Settles O54: a step waits, or it is an ISSUE action or a reaction at the block's pair. -/
theorem stepKeepsRunning : Obligations.StepKeepsRunning := by
  unfold Obligations.StepKeepsRunning
  intro s s' hr hc h
  rcases step_running_cases hr h with hi | rfl | ⟨ev, rest, he⟩
  · exact hi.running_captured rfl hr hc
  · exact ⟨hr, hc⟩
  · exact Reacts.running_captured (s := { s with events := rest }) he rfl hr hc

/-! ### The outstanding command (R46, R253, R265) -/

/-- The timeout with which the receiver is armed after a transmission of a state, where it is (R150, R182). -/
def armedAfter (st : BitVec 4) : Option RxTimeout :=
  if st = stISendPoll then some .resp else if st = stRSendResponse then some .final else none

@[simp] theorem armedAfter_iSendPoll : armedAfter stISendPoll = some .resp := rfl
@[simp] theorem armedAfter_iSendFinal : armedAfter stISendFinal = none := rfl
@[simp] theorem armedAfter_iSendFinalRepeat : armedAfter stISendFinalRepeat = none := rfl
@[simp] theorem armedAfter_rSendResponse : armedAfter stRSendResponse = some .final := rfl

/-- What the ledger holds in a state that waits for an event class, or for none. -/
def Env.Holds (e : Env) (st : BitVec 4) : Option EventClass → Prop
  | some .tx => (∃ q, e.tx = some q ∧ q.rxAfter = armedAfter st) ∧ e.rx = none ∧ e.timer = none
  | some .rx => e.tx = none ∧ e.rx.isSome ∧ e.timer = none
  | some .dly => e.tx = none ∧ e.rx = none ∧ e.timer.isSome
  | none => e.tx = none ∧ e.rx = none ∧ e.timer = none

theorem outstanding_iff {s : State} : Outstanding s ↔ s.env.Holds s.state (waitsFor s.selector) := by
  unfold Outstanding
  cases waitsFor s.selector with
  | none => exact Iff.rfl
  | some c => cases c <;> exact Iff.rfl

theorem Outstanding.holds {s : State} {ss : BitVec 6} (h : Outstanding s) (hss : s.selector = ss) :
    s.env.Holds (ss.extractLsb' 2 4) (waitsFor ss) := by
  rw [← (State.selector_fields hss).1, ← hss]
  exact outstanding_iff.1 h

/-- Entering a pair with what it waits for. -/
theorem outstanding_goto {s : State} {st : BitVec 4} {ph : BitVec 2} (c : Option EventClass)
    (h : s.env.Holds st c) (hc : waitsFor (st ++ ph) = c := by decide) : Outstanding (s.goto st ph) := by
  subst hc
  exact outstanding_iff.2 h

/-- TX_DONE ends the transmission and arms the receiver that it carries (R253). -/
theorem Env.answer_txDone_rx {e : Env} {q : TxRequest} {r : Option RxTimeout} (hq : e.tx = some q)
    (hr : q.rxAfter = r) (hrx : e.rx = none) (ts : TsBytes) {flags : BitVec 32} :
    (e.answer (.txDone ts) flags).rx = r := by
  subst hr
  cases h : q.rxAfter <;> simp [Env.answer, hq, h, hrx]

/-- An answered event of the class waited for leaves neither a transmission nor a wait, at a pair that waits for
one of the radio's classes. -/
theorem Env.Holds.answered {e : Env} {st : BitVec 4} {ev : Event} {c : Option EventClass} (flags : BitVec 32)
    (h : e.Holds st c) (hc : eventClass ev = c) (hp : c = some .tx ∨ c = some .rx) :
    (e.answer ev flags).tx = none ∧ (e.answer ev flags).timer = none := by
  rcases hp with rfl | rfl
  · obtain ⟨-, -, htimer⟩ := h
    cases ev with
    | txDone | txErr => exact ⟨rfl, htimer⟩
    | _ => cases hc
  · obtain ⟨htx, -, htimer⟩ := h
    cases ev with
    | rxGood | rxTimeout | rxErr => exact ⟨htx, htimer⟩
    | _ => cases hc

/-- An ISSUE action, with nothing outstanding, asks for what the next pair waits for. -/
theorem Issues.outstanding {ss : BitVec 6} {s s' : State} (h : Issues ss s s') (ho : Outstanding s)
    (hss : s.selector = ss) : Outstanding s' := by
  have hold := ho.holds hss
  cases h with
  | sendPoll | sendFinal | sendResponse =>
    obtain ⟨-, hrx, htimer⟩ := hold
    refine outstanding_goto (some .tx) ?_
    simp [Env.Holds, Env.accept, hrx, htimer]
  | pause | idle =>
    obtain ⟨htx, hrx, -⟩ := hold
    exact outstanding_goto (some .dly) ⟨htx, hrx, rfl⟩
  | awaitPoll | rearm =>
    obtain ⟨htx, -, htimer⟩ := hold
    exact outstanding_goto (some .rx) ⟨htx, rfl, htimer⟩
  | compute => exact outstanding_goto none hold
  | finalInvalid | computeInvalid => exact ho

/-- An awaited event answers what is outstanding, and any other leaves it. -/
theorem Reacts.outstanding {ss : BitVec 6} {ev : Event} {s s' : State} (h : Reacts ss ev s s')
    (ho : Outstanding s) (hss : s.selector = ss) : Outstanding s' := by
  have hold := ho.holds hss
  cases h with
  | unexpected | pauseInvalid => exact ho
  | failed k hc hp ht =>
    obtain ⟨htx, htimer⟩ := hold.answered (Config.driverFlags s.draws) hc hp
    obtain ⟨hpair, -⟩ := restartState_pair hp
    have hnone : waitsFor (restartState ss ++ phIssue) = none := by
      rcases hpair with h | h | h <;> rw [h] <;> rfl
    rcases ht with rfl | rfl <;> exact outstanding_goto none ⟨htx, rfl, htimer⟩ hnone
  | pollSent ts | responseSent ts =>
    obtain ⟨⟨q, hq, hafter⟩, hrx, htimer⟩ := hold
    exact outstanding_goto (some .rx) ⟨rfl, congrArg Option.isSome (Env.answer_txDone_rx hq hafter hrx ts), htimer⟩
  | finalSent ts | repeatSent ts =>
    obtain ⟨⟨q, hq, hafter⟩, hrx, htimer⟩ := hold
    exact outstanding_goto none ⟨rfl, Env.answer_txDone_rx hq hafter hrx ts, htimer⟩
  | pauseOver =>
    obtain ⟨-, hrx, -⟩ := hold
    refine outstanding_goto (some .tx) ?_
    simp [Env.Holds, Env.accept, Env.answer, hrx]
  | idleOver =>
    obtain ⟨htx, hrx, -⟩ := hold
    exact outstanding_goto none ⟨htx, hrx, rfl⟩
  | responseReceived | pollReceived | finalReceived | repeatReceived =>
    obtain ⟨htx, -, htimer⟩ := hold
    exact outstanding_goto none ⟨htx, rfl, htimer⟩

/-- Settles O55: each arrow answers or asks for what the pairs at its ends wait for. -/
theorem stepKeepsOutstanding : Obligations.StepKeepsOutstanding := by
  unfold Obligations.StepKeepsOutstanding
  intro s s' hr _ ho h
  rcases step_running_cases hr h with hi | rfl | ⟨ev, rest, he⟩
  · exact hi.outstanding ho rfl
  · exact ho
  · exact Reacts.outstanding (s := { s with events := rest }) he ho rfl

/-! ### The registers of the other role (R47) -/

/-- The role that captures a timestamp register (R36, R37). -/
def TReg.role : TReg → BitVec 1
  | .t0 | .t1 | .t2 => 0#1
  | .t3 | .t4 | .t5 | .t6 => 1#1

theorem otherRoleIdle_iff {s : State} : OtherRoleIdle s ↔
    (s.cfgRole = 0#1 → s.t3 = 0#64 ∧ s.t4 = 0#64 ∧ s.t5 = 0#64 ∧ s.t6 = 0#64 ∧ s.e0 = 0#32 ∧ s.e1 = 0#32 ∧
      s.e2 = 0#32 ∧ s.valid &&& 0xF8#8 = 0#8) ∧
    (s.cfgRole = 1#1 → s.t0 = 0#64 ∧ s.t1 = 0#64 ∧ s.t2 = 0#64 ∧ s.valid &&& 0x07#8 = 0#8) := by
  rcases BitVec.eq_zero_or_eq_one s.cfgRole with h | h <;> simp [OtherRoleIdle, h]

/-- A bit outside a mask is not seen under it. -/
theorem withValid_and_of_disjoint {v m : BitVec 8} {i : Nat} (h : (1#8 <<< i) &&& m = 0#8) :
    withValid v i &&& m = v &&& m := by
  rw [withValid, BitVec.and_or_distrib_right, h, BitVec.or_zero]

theorem OtherRoleIdle.writeT {s : State} {r : TReg} (v : U64) (h : OtherRoleIdle s)
    (hr : s.cfgRole = r.role) : OtherRoleIdle (s.writeT r v) := by
  rw [otherRoleIdle_iff] at h ⊢
  cases r <;> simpa [State.writeT, TReg.role, hr, withValid_and_of_disjoint, tIndex] using h

theorem OtherRoleIdle.writeEmbedded {s : State} (a b c : U32) (h : OtherRoleIdle s) (hr : s.cfgRole = 1#1) :
    OtherRoleIdle (s.writeEmbedded a b c) := by
  rw [otherRoleIdle_iff] at h ⊢
  simpa [hr, withValid_and_of_disjoint, embeddedIndex] using h

/-- The Initiator's exchange clear writes no register of the Responder. -/
theorem OtherRoleIdle.clearInitiator {s : State} (h : OtherRoleIdle s) (hr : s.cfgRole = 0#1) :
    OtherRoleIdle s.clearInitiator := by
  rw [otherRoleIdle_iff] at h ⊢
  simpa [hr, clearValidInitiator, BitVec.and_assoc] using h

/-- The Responder's exchange clear writes no register of the Initiator. -/
theorem OtherRoleIdle.clearResponder {s : State} (h : OtherRoleIdle s) (hr : s.cfgRole = 1#1) :
    OtherRoleIdle s.clearResponder := by
  rw [otherRoleIdle_iff] at h ⊢
  simpa [hr, clearValidResponder, BitVec.and_assoc] using h

/-- An ISSUE action writes registers of the pair's role only. -/
theorem Issues.otherRoleIdle {ss : BitVec 6} {s s' : State} (h : Issues ss s s') (ho : OtherRoleIdle s)
    (hr : s.cfgRole = ss.extractLsb' 5 1) : OtherRoleIdle s' := by
  cases h with
  | sendPoll => exact ho.clearInitiator hr
  | awaitPoll => exact ho.clearResponder hr
  | sendFinal => exact ho.writeT (r := .t2) _ hr
  | pause | idle | sendResponse | rearm | compute | finalInvalid | computeInvalid =>
    simpa [otherRoleIdle_iff] using ho

/-- A rule captures into registers of the pair's role only. -/
theorem Reacts.otherRoleIdle {ss : BitVec 6} {ev : Event} {s s' : State} (h : Reacts ss ev s s')
    (ho : OtherRoleIdle s) (hr : s.cfgRole = ss.extractLsb' 5 1) : OtherRoleIdle s' := by
  cases h with
  | failed k hc hp ht => rcases ht with rfl | rfl <;> simpa [otherRoleIdle_iff] using ho
  | pollSent => exact ho.writeT (r := .t0) _ hr
  | responseReceived => exact ho.writeT (r := .t1) _ hr
  | finalSent => exact ho.writeT (r := .t2) _ hr
  | pollReceived => exact ho.writeT (r := .t3) _ hr
  | responseSent => exact ho.writeT (r := .t4) _ hr
  | finalReceived => exact ho.writeT (r := .t5) _ hr
  | repeatReceived => exact (ho.writeEmbedded _ _ _ hr).writeT (r := .t6) _ hr
  | unexpected | pauseOver | pauseInvalid | repeatSent | idleOver => simpa [otherRoleIdle_iff] using ho

/-- Settles O56: the role of a running block is that of its pair. -/
theorem stepKeepsOtherRole : Obligations.StepKeepsOtherRole := by
  unfold Obligations.StepKeepsOtherRole
  intro s s' hr ho h
  rcases step_running_cases hr h with hi | rfl | ⟨ev, rest, he⟩
  · exact hi.otherRoleIdle ho (hr.role rfl)
  · exact ho
  · exact Reacts.otherRoleIdle (s := { s with events := rest }) he ho (hr.role rfl)

/-! ### SEQ and the results (R35, R160, R188) -/

/-- The results are read off the trace, and commands are no results. -/
theorem results_of_trace {s s' : State} (cs : List Command) (h : s'.trace = s.trace ++ cs.map .cmd) :
    s'.results = s.results := by
  simp [State.results, h]

/-- An ISSUE action leaves SEQ; R_COMPUTE alone emits a result, and goes to R_AWAIT_POLL. -/
theorem Issues.seq_results {ss : BitVec 6} {s s' : State} (h : Issues ss s s') :
    s'.seq = s.seq ∧ (s'.results = s.results ∨
      (ss = 0x30#6 ∧ s'.selector = 0x20#6 ∧ ∃ r, s'.trace = s.trace ++ [.res r])) := by
  cases h with
  | compute r => exact ⟨rfl, .inr ⟨rfl, by rw [State.goto_selector]; decide, r, rfl⟩⟩
  | finalInvalid | computeInvalid => exact ⟨rfl, .inl rfl⟩
  | sendPoll | sendFinal | pause | idle | awaitPoll | sendResponse | rearm =>
    exact ⟨rfl, .inl (results_of_trace [_] rfl)⟩

/-- A rule counts SEQ at most once and emits no result. -/
theorem Reacts.seq_results {ss : BitVec 6} {ev : Event} {s s' : State} (h : Reacts ss ev s s') :
    (s'.seq = s.seq ∨ s'.seq = s.seq + 1#8) ∧ s'.results = s.results := by
  cases h with
  | failed k hc hp ht =>
    rcases ht with rfl | rfl
    · exact ⟨.inl rfl, results_of_trace [.clearStatus, .resetRx] (by simp)⟩
    · exact ⟨.inr rfl, results_of_trace [.clearStatus, .resetRx] (by simp)⟩
  | pauseOver => exact ⟨.inl rfl, results_of_trace [_] rfl⟩
  | pollSent | finalSent | repeatSent | responseSent | finalReceived | repeatReceived => exact ⟨.inr rfl, rfl⟩
  | unexpected | responseReceived | pauseInvalid | idleOver | pollReceived => exact ⟨.inl rfl, rfl⟩

/-- Settles O59: a stuck block counts and computes nothing, and a running one does what its pair's outcome says. -/
theorem seqAndResultDiscipline : Obligations.SeqAndResultDiscipline := by
  unfold Obligations.SeqAndResultDiscipline
  intro s s' hp h
  cases hs : s.stuck with
  | true =>
    rw [step_stuck hp hs] at h
    cases h
    rcases s.stuckStep_cases with e | ⟨rest, e⟩ <;> rw [e]
    · exact ⟨.inl rfl, .inl rfl⟩
    · exact ⟨.inl rfl, .inl rfl⟩
  | false =>
    rcases step_running_cases ⟨hs, hp⟩ h with hi | rfl | ⟨ev, rest, he⟩
    · obtain ⟨hseq, hres⟩ := hi.seq_results
      exact ⟨.inl hseq, hres⟩
    · exact ⟨.inl rfl, .inl rfl⟩
    · obtain ⟨hseq, hres⟩ := he.seq_results
      exact ⟨hseq, .inl hres⟩

end Sys2Proof.Machine
end

section
/-! What every step keeps, a probe word's too: a predicate that each operation of the model keeps is kept by the
step (R11). Settles O57 and O58. -/

namespace Sys2Proof.Machine

open Sys2Proof

/-! ### Predicates kept by the operations -/

/-- The operations a step is made of keep `I`; timestamps are those of an event or the predicted one, and frames
those of the three types. -/
structure KeptByOps (I : State → Prop) : Prop where
  goto : ∀ {s} st ph, I s → I (s.goto st ph)
  incSeq : ∀ {s}, I s → I s.incSeq
  capture : ∀ {s} r ts, I s → I (s.writeT r (widen40To64 ts))
  predict : ∀ {s} a ant, I s → I (s.writeT .t2 (predictFinalTx a ant))
  writeEmbedded : ∀ {s} a b c, I s → I (s.writeEmbedded a b c)
  clearInitiator : ∀ {s}, I s → I s.clearInitiator
  clearResponder : ∀ {s}, I s → I s.clearResponder
  storeTx : ∀ {s frame}, I s → frame.length = 10 ∨ frame.length = 13 ∨ frame.length = 22 → I (s.storeTx frame)
  emit : ∀ {s} c, I s → I (s.emit c)
  putResult : ∀ {s} r, I s → I (s.putResult r)
  setLastErr : ∀ {s} k, I s → I (s.setLastErr k)
  unexpected : ∀ {s}, I s → I s.unexpected
  setFault : ∀ {s}, I s → I s.setFault
  answered : ∀ {s} ev, I s → I (s.answered ev)
  setUnitOut : ∀ {s} o, I s → I (s.setUnitOut o)
  /-- the event and probe ports, and the count of free values -/
  ports : ∀ {s} es p n, I s → I { s with events := es, probe := p, draws := n }

/-- Every next state the result answers has `I`. -/
def AnswersIn (I : State → Prop) (r : Res) : Prop := ∀ s', r = .next s' → I s'

section

variable {I : State → Prop}

theorem answersIn_next {s : State} (h : I s) : AnswersIn I (.next s) := by
  rintro _ ⟨⟩
  exact h

theorem answersIn_ite {c : Prop} [Decidable c] {a b : Res} (ha : AnswersIn I a) (hb : AnswersIn I b) :
    AnswersIn I (if c then a else b) := by
  split
  · exact ha
  · exact hb

variable (hI : KeptByOps I)
include hI

theorem KeptByOps.fail {s : State} (k : FailKind) (st : BitVec 4) (h : I s) : I (s.fail k st) :=
  hI.goto _ _ (hI.emit _ (hI.emit _ (hI.setLastErr k h)))

theorem KeptByOps.events {s : State} (rest : List Byte) (h : I s) : I { s with events := rest } :=
  hI.ports rest s.probe s.draws h

theorem KeptByOps.issues {ss : BitVec 6} {s s' : State} (hi : Issues ss s s') (h : I s) : I s' := by
  cases hi with
  | sendPoll => exact hI.goto _ _ (hI.emit _ (hI.storeTx (hI.clearInitiator h) (by simp)))
  | sendFinal a data hv hf => exact hI.goto _ _ (hI.emit _ (hI.storeTx (hI.predict _ _ h) (by simp [hf])))
  | sendResponse => exact hI.goto _ _ (hI.emit _ (hI.storeTx h (by simp)))
  | pause | idle | rearm => exact hI.goto _ _ (hI.emit _ h)
  | awaitPoll => exact hI.goto _ _ (hI.emit _ (hI.clearResponder h))
  | compute => exact hI.goto _ _ (hI.putResult _ h)
  | finalInvalid | computeInvalid => exact hI.setFault h

theorem KeptByOps.reacts {ss : BitVec 6} {ev : Event} {s s' : State} (hr : Reacts ss ev s s') (h : I s) :
    I s' := by
  have ha : I (s.answered ev) := hI.answered ev h
  cases hr with
  | unexpected => exact hI.unexpected h
  | failed k hc hp ht =>
    rcases ht with rfl | rfl
    · exact hI.fail _ _ ha
    · exact hI.fail _ _ (hI.incSeq ha)
  | pollSent | finalSent | responseSent => exact hI.goto _ _ (hI.incSeq (hI.capture _ _ ha))
  | responseReceived | pollReceived => exact hI.goto _ _ (hI.capture _ _ ha)
  | finalReceived => exact hI.goto _ _ (hI.capture _ _ (hI.incSeq ha))
  | repeatReceived => exact hI.goto _ _ (hI.capture _ _ (hI.writeEmbedded _ _ _ (hI.incSeq ha)))
  | pauseOver data hv hf => exact hI.goto _ _ (hI.emit _ (hI.storeTx ha (by simp [hf])))
  | pauseInvalid => exact hI.setFault h
  | repeatSent => exact hI.goto _ _ (hI.incSeq ha)
  | idleOver => exact hI.goto _ _ ha

theorem KeptByOps.selected {ss : BitVec 6} {i : Instr} (hi : decodeSelector ss = .ok i) {s : State} (h : I s) :
    AnswersIn I (exec i s) := by
  intro s' he
  rcases exec_selected_cases hi he with hiss | rfl | ⟨ev, rest, hr⟩
  · exact hI.issues hiss h
  · exact h
  · exact hI.reacts hr (hI.events rest h)

theorem KeptByOps.eventStep {s : State} (ev : Event) (h : I s) : AnswersIn I (eventStep ev s) := by
  intro s' he
  rcases eventStep_reacts he with rfl | hr
  · exact hI.setFault h
  · exact hI.reacts hr h

theorem KeptByOps.receiveFrame {s : State} (f : List Byte) (h : I s) : AnswersIn I (receiveFrame f s) :=
  hI.eventStep _ (hI.ports s.events s.probe _ h)

/-- Every row of the table keeps `I`. -/
theorem KeptByOps.exec (i : Instr) {s : State} (h : I s) : AnswersIn I (exec i s) := by
  cases i with
  | framePoll | frameResponse | frameFinal => exact hI.receiveFrame _ h
  | evTxDone | evTxErr | evRxTimeout | evRxErr | evDelayDone => exact hI.eventStep _ h
  | evRxGood => exact answersIn_ite (hI.eventStep _ h) (answersIn_next h)
  | cmdTx => exact answersIn_ite (answersIn_next (hI.emit _ h)) (answersIn_next h)
  | cmdArmRx | cmdResetRx | cmdClearStatus | cmdWait => exact answersIn_next (hI.emit _ h)
  | result => exact answersIn_next (hI.putResult _ h)
  | iSendPollIssue => exact hI.selected (ss := 0x00#6) rfl h
  | iSendPollAwait => exact hI.selected (ss := 0x01#6) rfl h
  | iAwaitResponseAwait => exact hI.selected (ss := 0x05#6) rfl h
  | iSendFinalIssue => exact hI.selected (ss := 0x08#6) rfl h
  | iSendFinalAwait => exact hI.selected (ss := 0x09#6) rfl h
  | iSendFinalRepeatIssue => exact hI.selected (ss := 0x0C#6) rfl h
  | iSendFinalRepeatPause => exact hI.selected (ss := 0x0E#6) rfl h
  | iSendFinalRepeatAwait => exact hI.selected (ss := 0x0D#6) rfl h
  | iIdleIssue => exact hI.selected (ss := 0x10#6) rfl h
  | iIdleAwait => exact hI.selected (ss := 0x11#6) rfl h
  | rAwaitPollIssue => exact hI.selected (ss := 0x20#6) rfl h
  | rAwaitPollAwait => exact hI.selected (ss := 0x21#6) rfl h
  | rSendResponseIssue => exact hI.selected (ss := 0x24#6) rfl h
  | rSendResponseAwait => exact hI.selected (ss := 0x25#6) rfl h
  | rAwaitFinalAwait => exact hI.selected (ss := 0x29#6) rfl h
  | rAwaitFinalRepeatIssue => exact hI.selected (ss := 0x2C#6) rfl h
  | rAwaitFinalRepeatAwait => exact hI.selected (ss := 0x2D#6) rfl h
  | rComputeIssue => exact hI.selected (ss := 0x30#6) rfl h
  | _ => exact answersIn_next (hI.setUnitOut _ h)

theorem KeptByOps.stuckStep {s : State} (h : I s) : I s.stuckStep := by
  rcases s.stuckStep_cases with e | ⟨rest, e⟩ <;> rw [e]
  · exact h
  · exact hI.setFault (hI.events rest h)

/-- The block's own step, with the probe port empty. -/
theorem KeptByOps.step_of_probe_none {s : State} (hp : s.probe = none) (h : I s) : AnswersIn I (step s) := by
  rcases step_cases s with ⟨i, -, -, -, e⟩ | ⟨-, -, e⟩ | ⟨p, hq, -⟩
  · rw [e]
    exact hI.exec i h
  · rw [e]
    exact answersIn_next (hI.stuckStep h)
  · rw [hp] at hq
    cases hq

/-- A predicate that every operation keeps is kept by every step. -/
theorem KeptByOps.step {s : State} (h : I s) : AnswersIn I (step s) := by
  rcases step_cases s with ⟨i, -, -, -, e⟩ | ⟨-, -, e⟩ | ⟨p, -, s0, rfl, e⟩
  · rw [e]
    exact hI.exec i h
  · rw [e]
    exact answersIn_next (hI.stuckStep h)
  · have h0 : I { s with probe := none } := hI.ports s.events none s.draws h
    rcases e with ⟨i, r, -, -, -, e⟩ | ⟨b, bs, -, e⟩ | ⟨-, -, e⟩ | ⟨c, r, -, -, e⟩ | ⟨-, -, e⟩ <;>
      rw [e]
    · exact hI.exec i h0
    · exact hI.step_of_probe_none rfl (hI.goto _ _ h0)
    · exact answersIn_ite (hI.receiveFrame _ h0) (answersIn_next h0)
    · exact hI.eventStep _ h0
    · exact answersIn_next h0

end

/-! ### Configuration and outputs (R34, R48, R312) -/

/-- `t` has the configuration of `s`, and its outputs extend those of `s`. -/
def Extends (s t : State) : Prop :=
  t.cfgRole = s.cfgRole ∧ t.cfgAntDly = s.cfgAntDly ∧ t.params = s.params ∧ ∃ os, t.trace = s.trace ++ os

theorem Extends.append {s t u : State} (o : Output) (h : Extends s t) (hrole : u.cfgRole = t.cfgRole)
    (hant : u.cfgAntDly = t.cfgAntDly) (hparams : u.params = t.params) (htrace : u.trace = t.trace ++ [o]) :
    Extends s u := by
  obtain ⟨h1, h2, h3, os, h4⟩ := h
  exact ⟨hrole.trans h1, hant.trans h2, hparams.trans h3, os ++ [o], by rw [htrace, h4, List.append_assoc]⟩

/-- Only `emit` and `putResult` touch the trace, and nothing touches the configuration. -/
theorem extends_keptByOps (s : State) : KeptByOps (Extends s) where
  goto _ _ h := h
  incSeq h := h
  capture r _ h := by cases r <;> exact h
  predict _ _ h := h
  writeEmbedded _ _ _ h := h
  clearInitiator h := h
  clearResponder h := h
  storeTx h _ := h
  emit c h := h.append (.cmd c) rfl rfl rfl rfl
  putResult r h := h.append (.res r) rfl rfl rfl rfl
  setLastErr _ h := h
  unexpected h := h
  setFault h := h
  answered _ h := h
  setUnitOut _ h := h
  ports _ _ _ h := h

/-- Settles O58: every operation of a step keeps the configuration and only appends to the trace. -/
theorem stepKeepsConfiguration : Obligations.StepKeepsConfiguration := by
  unfold Obligations.StepKeepsConfiguration
  intro s s' h
  exact (extends_keptByOps s).step ⟨rfl, rfl, rfl, [], (List.append_nil _).symm⟩ s' h

/-! ### Legal values (R36, R37, R41, R43, R280) -/

theorem shiftedByte_lt (b : Byte) {k : Nat} (hk : k ≤ 32) : (b.setWidth 64 <<< k).toNat < 2 ^ 40 := by
  have hb : b.toNat * 2 ^ k < 2 ^ 8 * 2 ^ 32 :=
    Nat.mul_lt_mul_of_lt_of_le b.isLt (Nat.pow_le_pow_right (by decide) hk) (by decide)
  have hmod : b.toNat % 2 ^ 64 = b.toNat := Nat.mod_eq_of_lt (b.isLt.trans (by decide))
  rw [BitVec.toNat_shiftLeft, BitVec.toNat_setWidth, Nat.shiftLeft_eq, hmod]
  exact (Nat.mod_le _ _).trans_lt hb

/-- A widened timestamp has bits [63:40] zero (R231). -/
theorem widen40To64_lt (b : TsBytes) : (widen40To64 b).toNat < 2 ^ 40 := by
  have h0 : (b.b0.setWidth 64).toNat < 2 ^ 40 := by
    have := b.b0.isLt
    simp only [BitVec.toNat_setWidth]
    omega
  simp only [widen40To64, BitVec.toNat_or]
  have h1 := Nat.or_lt_two_pow h0 (shiftedByte_lt b.b1 (k := 8) (by decide))
  have h2 := Nat.or_lt_two_pow h1 (shiftedByte_lt b.b2 (k := 16) (by decide))
  have h3 := Nat.or_lt_two_pow h2 (shiftedByte_lt b.b3 (k := 24) (by decide))
  exact Nat.or_lt_two_pow h3 (shiftedByte_lt b.b4 (k := 32) (by decide))

/-- A predicted time is not reduced modulo 2^40, and the antenna delay is 16 bits (R236). -/
theorem predictFinalTx_lt (a : U32) (ant : U16) : (predictFinalTx a ant).toNat < 2 ^ 40 + 2 ^ 16 := by
  have ha := a.isLt
  have hant := ant.isLt
  simp only [predictFinalTx, BitVec.toNat_add, BitVec.toNat_shiftLeft, BitVec.toNat_setWidth, Nat.shiftLeft_eq]
  omega

/-- A 40-bit value is in range for every timestamp register. -/
theorem TimestampsBounded.capture {s : State} (r : TReg) (ts : TsBytes) (h : TimestampsBounded s) :
    TimestampsBounded (s.writeT r (widen40To64 ts)) := by
  have hts := widen40To64_lt ts
  obtain ⟨h0, h1, h2, h3, h4, h5, h6⟩ := h
  cases r <;> simp only [TimestampsBounded, State.writeT] <;> omega

theorem TimestampsBounded.predict {s : State} (a : U32) (ant : U16) (h : TimestampsBounded s) :
    TimestampsBounded (s.writeT .t2 (predictFinalTx a ant)) := by
  obtain ⟨h0, h1, -, h3⟩ := h
  exact ⟨h0, h1, predictFinalTx_lt a ant, h3⟩

theorem TimestampsBounded.clearInitiator {s : State} (h : TimestampsBounded s) :
    TimestampsBounded s.clearInitiator := by
  obtain ⟨-, -, -, h3⟩ := h
  have hz : (0#64).toNat < 2 ^ 40 := by decide
  exact ⟨hz, hz, Nat.lt_add_right _ hz, h3⟩

theorem TimestampsBounded.clearResponder {s : State} (h : TimestampsBounded s) :
    TimestampsBounded s.clearResponder := by
  obtain ⟨h0, h1, h2, -⟩ := h
  have hz : (0#64).toNat < 2 ^ 40 := by decide
  exact ⟨h0, h1, h2, hz, hz, hz, hz⟩

/-- LAST_ERR is overwritten with a code of R280. -/
theorem StatusLegal.setLastErr {s : State} (k : FailKind) (h : StatusLegal s) : StatusLegal (s.setLastErr k) := by
  obtain ⟨hhigh, -⟩ := h
  have hlast : lastErr (withLastErr s.status k) = failCode k := by
    cases k <;> simp [lastErr, withLastErr, failCode, BitVec.extractLsb'_or, BitVec.extractLsb'_and]
  refine ⟨?_, ?_⟩
  · cases k <;> simp [withLastErr, failCode, BitVec.extractLsb'_or, BitVec.extractLsb'_and, hhigh]
  · rw [State.setLastErr_status, hlast]
    cases k <;> decide

/-- Setting EV_UNEXP or FAULT changes neither LAST_ERR nor STATUS[7:5]. -/
theorem StatusLegal.unexpected {s : State} (h : StatusLegal s) : StatusLegal s.unexpected := by
  simpa [StatusLegal, lastErr, withEvUnexp, BitVec.extractLsb'_or] using h

theorem StatusLegal.setFault {s : State} (h : StatusLegal s) : StatusLegal s.setFault := by
  simpa [StatusLegal, lastErr, withFault, BitVec.extractLsb'_or] using h

/-- A stored frame keeps TXBUF canonical, and TXLEN is its length. -/
theorem TxLegal.storeTx {s : State} {frame : List Byte} (h : TxLegal s)
    (hf : frame.length = 10 ∨ frame.length = 13 ∨ frame.length = 22) : TxLegal (s.storeTx frame) := by
  obtain ⟨hwf, -⟩ := h
  refine ⟨Memory.wf_writeFrom hwf (by simp only [txbufSize]; omega), .inr ?_⟩
  rcases hf with hf | hf | hf <;> simp [hf]

/-- The registers are in their legal ranges. -/
def LegalValues (s : State) : Prop := TimestampsBounded s ∧ StatusLegal s ∧ TxLegal s

theorem legalValues_keptByOps : KeptByOps LegalValues where
  goto _ _ h := h
  incSeq h := h
  capture r ts := fun ⟨ht, hs, hx⟩ => ⟨ht.capture r ts, by cases r <;> exact hs, by cases r <;> exact hx⟩
  predict a ant := fun ⟨ht, hs, hx⟩ => ⟨ht.predict a ant, hs, hx⟩
  writeEmbedded _ _ _ h := h
  clearInitiator := fun ⟨ht, hs, hx⟩ => ⟨ht.clearInitiator, hs, hx⟩
  clearResponder := fun ⟨ht, hs, hx⟩ => ⟨ht.clearResponder, hs, hx⟩
  storeTx := fun ⟨ht, hs, hx⟩ hf => ⟨ht, hs, hx.storeTx hf⟩
  emit _ h := h
  putResult _ h := h
  setLastErr k := fun ⟨ht, hs, hx⟩ => ⟨ht, hs.setLastErr k, hx⟩
  unexpected := fun ⟨ht, hs, hx⟩ => ⟨ht, hs.unexpected, hx⟩
  setFault := fun ⟨ht, hs, hx⟩ => ⟨ht, hs.setFault, hx⟩
  answered _ h := h
  setUnitOut _ h := h
  ports _ _ _ h := h

/-- Settles O57: every operation of a step keeps the ranges. -/
theorem stepKeepsLegalValues : Obligations.StepKeepsLegalValues := by
  unfold Obligations.StepKeepsLegalValues
  intro s s' ht hs hx h
  exact legalValues_keptByOps.step ⟨ht, hs, hx⟩ s' h

end Sys2Proof.Machine
end

section
/-! The byte order and the readers of a stream (00_scope.md R15; 30_encoding.md R96, R97, R100): a reader takes a
value off the stream exactly where the value's bytes stand at its head. -/

namespace Sys2Proof

/-! ### Byte order (R15) -/

/-- The byte at offset `p` of a word. -/
theorem extract_byte_eq {n : Nat} {v : BitVec n} {b : Byte} {p : Nat}
    (h : ∀ i < 8, v.getLsbD (p + i) = b.getLsbD i) : v.extractLsb' p 8 = b := by
  apply BitVec.eq_of_getLsbD_eq
  intro i hi
  simp [hi, h i hi]

theorem le16_ofLe16 (b0 b1 : Byte) : le16 (ofLe16 b0 b1) = [b0, b1] := by
  simp only [le16, List.cons.injEq, and_true]
  refine ⟨extract_byte_eq ?_, extract_byte_eq ?_⟩ <;> intro i hi <;> interval_cases i <;> simp [ofLe16]

theorem le32_ofLe32 (b0 b1 b2 b3 : Byte) : le32 (ofLe32 b0 b1 b2 b3) = [b0, b1, b2, b3] := by
  simp only [le32, List.cons.injEq, and_true]
  refine ⟨extract_byte_eq ?_, extract_byte_eq ?_, extract_byte_eq ?_, extract_byte_eq ?_⟩ <;>
    intro i hi <;> interval_cases i <;> simp [ofLe32]

/-! ### Readers (R96, R97, R100) -/

/-- A read that succeeds hands its value on. -/
@[simp] theorem except_ok_bind {ε α β : Type} (a : α) (f : α → Except ε β) : (Except.ok a >>= f) = f a := rfl

@[simp] theorem takeU8_cons (b : Byte) (r : List Byte) : takeU8 (b :: r) = .ok (b, r) := rfl

theorem takeU8_eq_ok {bs r : List Byte} {b : Byte} (h : takeU8 bs = .ok (b, r)) : bs = b :: r := by
  unfold takeU8 at h
  split at h <;> cases h
  rfl

@[simp] theorem takeU16_le16 (v : U16) (r : List Byte) : takeU16 (le16 v ++ r) = .ok (v, r) := by
  simp [le16, takeU16, ofLe16_extract]

theorem takeU16_eq_ok {bs r : List Byte} {v : U16} (h : takeU16 bs = .ok (v, r)) : bs = le16 v ++ r := by
  unfold takeU16 at h
  split at h <;> cases h
  simp [le16_ofLe16]

@[simp] theorem takeU32_le32 (v : U32) (r : List Byte) : takeU32 (le32 v ++ r) = .ok (v, r) := by
  simp [le32, takeU32, ofLe32_extract]

theorem takeU32_eq_ok {bs r : List Byte} {v : U32} (h : takeU32 bs = .ok (v, r)) : bs = le32 v ++ r := by
  unfold takeU32 at h
  split at h <;> cases h
  simp [le32_ofLe32]

@[simp] theorem takeU64_le64 (v : U64) (r : List Byte) : takeU64 (le64 v ++ r) = .ok (v, r) := by
  simp [le64, takeU64, ofLe64_extract]

@[simp] theorem takeTs_bytes (ts : TsBytes) (r : List Byte) : takeTs (ts.bytes ++ r) = .ok (ts, r) := rfl

theorem takeBytes_append {n : Nat} {f : List Byte} (h : n = f.length) (r : List Byte) :
    takeBytes n (f ++ r) = .ok (f, r) := by
  simp [takeBytes, h]

theorem takeBytes_eq_ok {n : Nat} {bs f r : List Byte} (h : takeBytes n bs = .ok (f, r)) :
    bs = f ++ r ∧ f.length = n := by
  refine ⟨?_, Machine.takeBytes_length h⟩
  unfold takeBytes at h
  split at h <;> cases h
  exact (List.take_append_drop n bs).symm

/-- A length up to 255 is what its byte reads as (R91, R95). -/
theorem lenByte_toNat {n : Nat} (h : n ≤ maxLen) : (BitVec.ofNat 8 n).toNat = n := by
  unfold maxLen at h
  simp
  omega

@[simp] theorem takeLenBytes_lenBytes {f : List Byte} (h : f.length ≤ maxLen) (r : List Byte) :
    takeLenBytes (lenBytes f ++ r) = .ok (f, r) :=
  takeBytes_append (lenByte_toNat h) r

end Sys2Proof
end

section
/-! Every word of each namespace decodes to what it encodes (30_encoding.md R84-R102). Settles O1, O2 and O3. -/

namespace Sys2Proof

/-! ### Event words, by CODE (R95, R96) -/

section eventWord
variable {ew : U32}

theorem decodeEvent_txDone (h : ew.extractLsb' 0 4 = 0x1#4) (ts : TsBytes) (rest : List Byte) :
    decodeEvent (le32 ew ++ (ts.bytes ++ rest)) = .ok (.txDone ts, rest) := by
  simp [decodeEvent, h, -BitVec.extractLsb'_toNat]

theorem decodeEvent_txErr (h : ew.extractLsb' 0 4 = 0x2#4) (rest : List Byte) :
    decodeEvent (le32 ew ++ rest) = .ok (.txErr, rest) := by
  simp [decodeEvent, h, -BitVec.extractLsb'_toNat]

theorem decodeEvent_rxGood (h : ew.extractLsb' 0 4 = 0x3#4) {f : List Byte}
    (hlen : (ew.extractLsb' 8 8).toNat = f.length) (ts : TsBytes) (rest : List Byte) :
    decodeEvent (le32 ew ++ (ts.bytes ++ (f ++ rest))) = .ok (.rxGood ts f, rest) := by
  simp only [decodeEvent, takeU32_le32, except_ok_bind, h, takeTs_bytes, takeBytes_append hlen]
  rfl

theorem decodeEvent_rxTimeout (h : ew.extractLsb' 0 4 = 0x4#4) (rest : List Byte) :
    decodeEvent (le32 ew ++ rest) = .ok (.rxTimeout, rest) := by
  simp [decodeEvent, h, -BitVec.extractLsb'_toNat]

theorem decodeEvent_rxErr (h : ew.extractLsb' 0 4 = 0x5#4) (rest : List Byte) :
    decodeEvent (le32 ew ++ rest) = .ok (.rxErr, rest) := by
  simp [decodeEvent, h, -BitVec.extractLsb'_toNat]

theorem decodeEvent_delayDone (h : ew.extractLsb' 0 4 = 0x6#4) (rest : List Byte) :
    decodeEvent (le32 ew ++ rest) = .ok (.delayDone, rest) := by
  simp [decodeEvent, h, -BitVec.extractLsb'_toNat]

/-- The CODEs that R95 reserves are those outside 1 to 6. -/
theorem decodeEvent_reserved (h : ew.extractLsb' 0 4 = 0x0#4 ∨ 0x7#4 ≤ ew.extractLsb' 0 4) (rest : List Byte) :
    decodeEvent (le32 ew ++ rest) = .ok (.reserved (ew.extractLsb' 0 4), rest) := by
  have hcode : (ew.extractLsb' 0 4).toNat = 0 ∨ 7 ≤ (ew.extractLsb' 0 4).toNat :=
    h.imp (congrArg BitVec.toNat) BitVec.le_def.1
  simp only [decodeEvent, takeU32_le32, except_ok_bind]
  split
  case h_7 => rfl
  all_goals omega

end eventWord

/-- Settles O3: each clause is the reading of one CODE. -/
theorem eventWordMeaning : Obligations.EventWordMeaning := by
  unfold Obligations.EventWordMeaning
  intro ew ts f rest
  exact ⟨(decodeEvent_txDone · ts rest), (decodeEvent_txErr · rest), (decodeEvent_rxGood · · ts rest),
    (decodeEvent_rxTimeout · rest), (decodeEvent_rxErr · rest), (decodeEvent_delayDone · rest),
    (decodeEvent_reserved · rest)⟩

/-- Settles O2: the six words are read byte by byte. -/
theorem sampleWordsDecode : Obligations.SampleWordsDecode := by
  unfold Obligations.SampleWordsDecode
  exact ⟨by decide, by decide, by decide, by decide, by decide, by decide⟩

/-! ### Decoding an encoded event (R95, R96) -/

/-- The events that have a row of the table, with a frame that LEN can count. -/
theorem decode_encodeEvent (P : Params) {ev : Event} {i : Instr} (hi : ev.toInstr = .ok i) (hw : i.wf = true)
    (rest : List Byte) : decode P .event (encodeEvent ev ++ rest) = .ok (i, rest) := by
  have hd : decodeEvent (encodeEvent ev ++ rest) = .ok (ev, rest) := by
    cases ev with
    | txDone ts => simpa [encodeEvent] using decodeEvent_txDone (packEvent_code _ _) ts rest
    | txErr => exact decodeEvent_txErr (packEvent_code _ _) rest
    | rxGood ts data =>
      cases hi
      have hlen := lenByte_toNat (of_decide_eq_true hw)
      simpa [encodeEvent] using
        decodeEvent_rxGood (packEvent_code _ _) ((congrArg _ (packEvent_len _ _)).trans hlen) ts rest
    | rxTimeout => exact decodeEvent_rxTimeout (packEvent_code _ _) rest
    | rxErr => exact decodeEvent_rxErr (packEvent_code _ _) rest
    | delayDone => exact decodeEvent_delayDone (packEvent_code _ _) rest
    | reserved c => cases hi
  simp [decode, hd, hi]

/-! ### Decoding an encoded command (R91-R93, R100) -/

@[simp] theorem RxTimeout.ofCode_code (t : RxTimeout) : RxTimeout.ofCode t.code = .ok t := by
  cases t <;> rfl

@[simp] theorem DelaySel.ofCode_code (d : DelaySel) : DelaySel.ofCode d.code = .ok d := by
  cases d <;> rfl

@[simp] theorem TxMode.ofBit_code (m : TxMode) : TxMode.ofBit (m.code == 1#1) = m := by
  cases m <;> rfl

@[simp] theorem ofBool_beq_one (b : Bool) : (BitVec.ofBool b == 1#1) = b := by
  cases b <;> rfl

theorem decodeCommand_encodeCommand {c : Command} (hw : c.wf = true) (rest : List Byte) :
    decodeCommand (encodeCommand c ++ rest) = .ok (c, rest) := by
  cases c with
  | tx mode rxa rxto dly data =>
    simp only [Command.wf, Bool.and_eq_true, decide_eq_true_eq, Bool.or_eq_true, beq_iff_eq] at hw
    obtain ⟨hlen, hrxto⟩ := hw
    have hused : ¬(BitVec.ofBool rxa = 0#1 ∧ rxto.code ≠ 0#2) := by
      rintro ⟨hrxa, hcode⟩
      rcases hrxto with rfl | rfl
      · cases hrxa
      · exact hcode rfl
    simp [decodeCommand, encodeCommand, commandWord, hused, takeBytes_append (lenByte_toNat hlen),
      -BitVec.extractLsb'_toNat, -BitVec.toNat_ofNat]
  | armRx | resetRx | clearStatus | wait =>
    simp [decodeCommand, encodeCommand, commandWord, -BitVec.extractLsb'_toNat]

theorem decode_encodeCommand (P : Params) {c : Command} (hw : c.wf = true) (rest : List Byte) :
    decode P .command (encodeCommand c ++ rest) = .ok (c.toInstr, rest) := by
  simp [decode, decodeCommand_encodeCommand hw]

/-! ### Decoding an encoded result record (R97; log 28) -/

@[simp] theorem resultWord_degen (b : Bool) : (0#31 ++ BitVec.ofBool b).extractLsb' 0 1 = BitVec.ofBool b := by
  cases b <;> decide

@[simp] theorem resultWord_reserved (b : Bool) : (0#31 ++ BitVec.ofBool b).extractLsb' 1 31 = 0#31 := by
  cases b <;> decide

theorem decodeResult_encodeResult (r : ResultRecord) (rest : List Byte) :
    decodeResult (encodeResult r ++ rest) = .ok (r, rest) := by
  simp [decodeResult, encodeResult]

/-! ### Decoding an encoded unit function (R102; log 10) -/

@[simp] theorem FrameType.ofCode_code (t : FrameType) : FrameType.ofCode t.code = .ok t := by
  cases t <;> rfl

theorem decodeUnit_encode (P : Params) {i : Instr} (hp : i.port = .unitFn) (hw : i.wf = true) (rest : List Byte) :
    decodeUnit (encode P i ++ rest) = .ok (i, rest) := by
  cases i with
  | unitDecodeFinalTimestamps f | unitMatchesType f t =>
    have hlen : f.length ≤ maxLen := of_decide_eq_true hw
    simp [decodeUnit, encode, hlen]
  | unitEncodePoll | unitEncodeResponse | unitEncodeFinal | unitDecode32Le | unitEncode32Le | unitWiden40To64
  | unitNarrowTo32 | unitSub32 | unitAlignDelayedTx | unitPredictFinalTx | unitRangingIntervals | unitTofDeviceUnits
  | unitTimeOfFlight | unitDistance =>
    simp [decodeUnit, encode]
  | _ => cases hp

/-! ### The header of a frame (R81-R88, R125) -/

theorem headerMatches_iff {t : Template} {f : List Byte} :
    headerMatches t f = true ↔ ∀ i < 10, i ≠ seqIdx → f[i]? = t.toList[i]? := by
  simp [headerMatches, Classical.or_iff_not_imp_left]

/-- A frame built from a template matches another template as that template itself does: the sequence byte is not
compared, and the payload stands after the header. -/
theorem headerMatches_withSeq_append (t u : Template) (seq : Byte) (r : List Byte) :
    headerMatches t (u.withSeq seq ++ r) = headerMatches t u.toList := by
  have hbyte : ∀ i < 10, i ≠ seqIdx → (u.withSeq seq ++ r)[i]? = u.toList[i]? := by
    intro i hi hne
    rw [List.getElem?_append_left (by simpa [Machine.withSeq_length] using hi), Template.withSeq,
      List.getElem?_set_ne hne.symm]
  rw [Bool.eq_iff_iff, headerMatches_iff, headerMatches_iff]
  refine forall_congr' fun i => forall_congr' fun hi => forall_congr' fun hne => ?_
  rw [hbyte i hi hne]

@[simp] theorem headerMatches_withSeq (t u : Template) (seq : Byte) :
    headerMatches t (u.withSeq seq) = headerMatches t u.toList := by
  simpa using headerMatches_withSeq_append t u seq []

@[simp] theorem headerMatches_self (t : Template) : headerMatches t t.toList = true :=
  headerMatches_iff.2 fun _ _ _ => rfl

theorem headerMatches_eq_false_of_differs {t u : Template} (h : Template.differs t u = true) :
    headerMatches t u.toList = false := by
  simp only [Template.differs, List.any_eq_true, List.mem_range, Bool.and_eq_true, bne_iff_ne] at h
  obtain ⟨i, hi, hne, hbyte⟩ := h
  rw [← Bool.not_eq_true, headerMatches_iff]
  exact fun hm => hbyte (hm i hi hne).symm

/-- The type of a frame with a template's header is that of the template, where no template before it in the order
of `frameType?` matches too: R8 (b). -/
theorem frameType?_withSeq {P : Params} (hP : P.wf = true) (ty : FrameType) (seq : Byte) :
    frameType? P ((P.template ty).withSeq seq) = some ty := by
  simp only [Params.wf, Bool.and_eq_true] at hP
  obtain ⟨⟨⟨-, hpr⟩, hpf⟩, hrf⟩ := hP
  unfold frameType?
  cases ty with
  | poll => simp [Params.template]
  | response => simp [Params.template, headerMatches_eq_false_of_differs hpr]
  | final =>
    simp [Params.template, headerMatches_eq_false_of_differs hpf, headerMatches_eq_false_of_differs hrf]

/-- The sequence byte stands at `SEQ_IDX` of a header. -/
theorem withSeq_drop (t : Template) (seq : Byte) :
    (t.withSeq seq).drop seqIdx = seq :: t.toList.drop (seqIdx + 1) := by
  rw [Template.withSeq, List.drop_set, if_neg (lt_irrefl _), Nat.sub_self,
    List.drop_eq_getElem_cons (by simp [seqIdx])]
  rfl

@[simp] theorem takeBytes_withSeq (t : Template) (seq : Byte) (r : List Byte) :
    takeBytes 10 (t.withSeq seq ++ r) = .ok (t.withSeq seq, r) :=
  takeBytes_append (Machine.withSeq_length t seq).symm r

/-! ### Decoding an encoded frame (R84-R86) -/

theorem decodeFrame_encode {P : Params} (hP : P.wf = true) {i : Instr} (hp : i.port = .frame) (rest : List Byte) :
    decodeFrame P (encode P i ++ rest) = .ok (i, rest) := by
  cases i with
  | framePoll seq =>
    have hty : frameType? P (P.hdrPoll.withSeq seq) = some .poll := frameType?_withSeq hP .poll seq
    simp [decodeFrame, encode, pollFrame, withSeq_drop, hty]
  | frameResponse seq code param =>
    have hty : frameType? P (P.hdrResp.withSeq seq) = some .response := frameType?_withSeq hP .response seq
    simp [decodeFrame, encode, responseFrame, withSeq_drop, hty]
  | frameFinal seq a b c =>
    have hty : frameType? P (P.hdrFinal.withSeq seq) = some .final := frameType?_withSeq hP .final seq
    simp [decodeFrame, encode, finalFrame, withSeq_drop, hty]
  | _ => cases hp

/-! ### Every namespace -/

theorem decodeSelectorByte_encode (P : Params) {i : Instr} (hp : i.port = .selector) (rest : List Byte) :
    decodeSelectorByte (encode P i ++ rest) = .ok (i, rest) := by
  cases i with
  | iSendPollIssue | iSendPollAwait | iAwaitResponseAwait | iSendFinalIssue | iSendFinalAwait
  | iSendFinalRepeatIssue | iSendFinalRepeatPause | iSendFinalRepeatAwait | iIdleIssue | iIdleAwait
  | rAwaitPollIssue | rAwaitPollAwait | rSendResponseIssue | rSendResponseAwait | rAwaitFinalAwait
  | rAwaitFinalRepeatIssue | rAwaitFinalRepeatAwait | rComputeIssue => rfl
  | _ => cases hp

/-- Settles O1: each namespace's decoder reads what its encoder wrote. -/
theorem decodeOfEncodeIsIdentity : Obligations.DecodeOfEncodeIsIdentity := by
  unfold Obligations.DecodeOfEncodeIsIdentity
  intro P i rest hP hw
  cases i with
  | framePoll | frameResponse | frameFinal => exact decodeFrame_encode hP rfl rest
  | cmdTx mode rxa rxto dly data => exact decode_encodeCommand P (c := .tx mode rxa rxto dly data) hw rest
  | cmdArmRx rxto => exact decode_encodeCommand P (c := .armRx rxto) hw rest
  | cmdResetRx => exact decode_encodeCommand P (c := .resetRx) hw rest
  | cmdClearStatus => exact decode_encodeCommand P (c := .clearStatus) hw rest
  | cmdWait dsel => exact decode_encodeCommand P (c := .wait dsel) hw rest
  | evTxDone ts => exact decode_encodeEvent P (ev := .txDone ts) rfl hw rest
  | evTxErr => exact decode_encodeEvent P (ev := .txErr) rfl hw rest
  | evRxGood ts data => exact decode_encodeEvent P (ev := .rxGood ts data) rfl hw rest
  | evRxTimeout => exact decode_encodeEvent P (ev := .rxTimeout) rfl hw rest
  | evRxErr => exact decode_encodeEvent P (ev := .rxErr) rfl hw rest
  | evDelayDone => exact decode_encodeEvent P (ev := .delayDone) rfl hw rest
  | result => simp [decode, Instr.port, encode, decodeResult_encodeResult]
  | unitEncodePoll | unitEncodeResponse | unitEncodeFinal | unitDecodeFinalTimestamps | unitMatchesType
  | unitDecode32Le | unitEncode32Le | unitWiden40To64 | unitNarrowTo32 | unitSub32 | unitAlignDelayedTx
  | unitPredictFinalTx | unitRangingIntervals | unitTofDeviceUnits | unitTimeOfFlight | unitDistance =>
    exact decodeUnit_encode P rfl hw rest
  | _ => exact decodeSelectorByte_encode P rfl rest

end Sys2Proof
end

section
/-! What the selector selects (30_encoding.md R90) and the command words of a step (R91, R94). Settles O4 and O5. -/

namespace Sys2Proof.Machine

open Sys2Proof

/-! ### The table of selectors (R90) -/

/-- The 18 rows of R90. -/
def selectorTable : List (BitVec 6 × Instr) :=
  [(0x00#6, .iSendPollIssue), (0x01#6, .iSendPollAwait), (0x05#6, .iAwaitResponseAwait),
   (0x08#6, .iSendFinalIssue), (0x09#6, .iSendFinalAwait), (0x0C#6, .iSendFinalRepeatIssue),
   (0x0E#6, .iSendFinalRepeatPause), (0x0D#6, .iSendFinalRepeatAwait), (0x10#6, .iIdleIssue),
   (0x11#6, .iIdleAwait), (0x20#6, .rAwaitPollIssue), (0x21#6, .rAwaitPollAwait),
   (0x24#6, .rSendResponseIssue), (0x25#6, .rSendResponseAwait), (0x29#6, .rAwaitFinalAwait),
   (0x2C#6, .rAwaitFinalRepeatIssue), (0x2D#6, .rAwaitFinalRepeatAwait), (0x30#6, .rComputeIssue)]

/-- The selector decoder is the table. -/
theorem decodeSelector_eq_ok_iff {ss : BitVec 6} {i : Instr} :
    decodeSelector ss = .ok i ↔ (ss, i) ∈ selectorTable := by
  constructor
  · intro h
    simpa [selectorTable] using decodeSelector_ok h
  · intro h
    have hrows : ∀ e ∈ selectorTable, decodeSelector e.1 = .ok e.2 := by decide
    exact hrows _ h

theorem State.selector_eq (s : State) :
    s.selector = (s.state.setWidth 6 <<< 2 ||| s.phase.setWidth 6) := by
  have happend : ∀ (a : BitVec 4) (b : BitVec 2), a ++ b = (a.setWidth 6 <<< 2 ||| b.setWidth 6) := by decide
  exact happend s.state s.phase

/-- Settles O4: the decoder is the table, and a block that is not stuck has a selector that decodes. -/
theorem selectorSelectsAction : Obligations.SelectorSelectsAction := by
  unfold Obligations.SelectorSelectsAction
  intro _ s
  refine ⟨s.selector_eq, ?_, ?_⟩
  · rintro ⟨ss, i⟩ he hss hs hp
    exact step_selected hp hs (decodeSelector_eq_ok_iff.2 (hss ▸ he))
  · intro hno
    by_contra hs
    obtain ⟨-, ⟨i, hi⟩, -⟩ := State.stuck_eq_false.1 (Bool.eq_false_of_not_eq_true hs)
    exact hno _ (decodeSelector_eq_ok_iff.1 hi) rfl

/-! ### The command words of a step (R94) -/

/-- The nine command words of R94. -/
def tabledWords : List U32 :=
  [0x000A0061#32, 0x00160001#32, 0x00160011#32, 0x000D00A1#32, 0x00000002#32, 0x00000003#32,
   0x00000004#32, 0x00000005#32, 0x00000105#32]

/-- What `s'` has on its trace beyond `s` holds only commands with a word of R94. -/
def EmitsTabled (s s' : State) : Prop :=
  ∃ os : List Output, s'.trace = s.trace ++ os ∧ ∀ c : Command, .cmd c ∈ os → commandWord c ∈ tabledWords

theorem emitsTabled_of_commands {s s' : State} (cs : List Command) (h : s'.trace = s.trace ++ cs.map .cmd)
    (hw : ∀ c ∈ cs, commandWord c ∈ tabledWords) : EmitsTabled s s' :=
  ⟨_, h, fun c hc => hw c (by simpa using hc)⟩

theorem emitsTabled_of_trace_eq {s s' : State} (h : s'.trace = s.trace) : EmitsTabled s s' :=
  emitsTabled_of_commands [] (by simpa using h) (by simp)

/-- The word of the TX command that sends a frame carries the frame's length (R91, R251). -/
theorem State.sendFrame_emitsTabled {s s' : State} {mode : TxMode} {rxa : Bool} {rxto : RxTimeout} {dly : U32}
    {frame : List Byte} {st : BitVec 4} (hf : frame.length ≤ txbufSize)
    (hw : packCommand 1#4 mode.code (BitVec.ofBool rxa) rxto.code 0#2 (BitVec.ofNat 8 frame.length) ∈ tabledWords)
    (h : s.sendFrame mode rxa rxto dly frame st = .next s') : EmitsTabled s s' := by
  rw [State.sendFrame_next s mode rxa rxto dly st hf] at h
  cases h
  exact emitsTabled_of_commands [_] rfl (by simpa [commandWord] using hw)

theorem execISendPollIssue_emitsTabled {s s' : State} (h : execISendPollIssue s = .next s') : EmitsTabled s s' :=
  State.sendFrame_emitsTabled (s := s.clearInitiator) (by simp [txbufSize]) (by rw [encodePoll_length]; decide) h

/-- Both Finals have a word of R94, in either mode. -/
theorem finalWord_mem_tabledWords (mode : TxMode) :
    packCommand 1#4 mode.code (BitVec.ofBool false) RxTimeout.noTimeout.code 0#2 22#8 ∈ tabledWords := by
  cases mode <;> decide

theorem execISendFinalIssue_emitsTabled {s s' : State} (h : execISendFinalIssue s = .next s') :
    EmitsTabled s s' := by
  unfold execISendFinalIssue at h
  split at h
  · refine State.sendFrame_emitsTabled (s := s.writeT .t2 _) (by simp [txbufSize]) ?_ h
    rw [encodeFinal_length]
    exact finalWord_mem_tabledWords _
  · cases h
    exact emitsTabled_of_trace_eq rfl

theorem execRSendResponseIssue_emitsTabled {s s' : State} (h : execRSendResponseIssue s = .next s') :
    EmitsTabled s s' :=
  State.sendFrame_emitsTabled (by simp [txbufSize]) (by rw [encodeResponse_length]; decide) h

theorem onISendFinalRepeatPause_delayDone_emitsTabled {s s' : State}
    (h : onISendFinalRepeatPause .delayDone s = .next s') : EmitsTabled s s' := by
  simp only [onISendFinalRepeatPause] at h
  split at h
  · exact State.sendFrame_emitsTabled (s := s.answered .delayDone) (by simp [txbufSize])
      (by rw [encodeFinal_length]; exact finalWord_mem_tabledWords _) h
  · cases h
    exact emitsTabled_of_trace_eq rfl

/-- An ISSUE action: the outcomes that send a frame say nothing of its length, so these go back to the action. -/
theorem exec_issue_emitsTabled {ss : BitVec 6} {i : Instr} {s s' : State} (hi : decodeSelector ss = .ok i)
    (hf : eventRule i = none) (h : exec i s = .next s') : EmitsTabled s s' := by
  cases exec_issues hi hf h with
  | sendPoll =>
    cases hi
    exact execISendPollIssue_emitsTabled h
  | sendFinal =>
    cases hi
    exact execISendFinalIssue_emitsTabled h
  | sendResponse =>
    cases hi
    exact execRSendResponseIssue_emitsTabled h
  | pause | idle | awaitPoll | rearm => exact emitsTabled_of_commands [_] rfl (by decide)
  | compute r => exact ⟨[.res r], rfl, by simp⟩
  | finalInvalid | computeInvalid => exact emitsTabled_of_trace_eq rfl

/-- A rule: the only one that sends a frame is that of the pause (R156). -/
theorem eventRule_emitsTabled {ss : BitVec 6} {i : Instr} {f : Event → State → Res} {ev : Event} {s s' : State}
    (hi : decodeSelector ss = .ok i) (hf : eventRule i = some f) (h : f ev s = .next s') : EmitsTabled s s' := by
  cases eventRule_reacts hi hf h with
  | pauseOver =>
    cases hi
    cases hf
    exact onISendFinalRepeatPause_delayDone_emitsTabled h
  | failed k hc hp ht =>
    refine emitsTabled_of_commands [.clearStatus, .resetRx] ?_ (by decide)
    rcases ht with rfl | rfl <;> simp
  | unexpected | pollSent | responseReceived | finalSent | pauseInvalid | repeatSent | idleOver | pollReceived
  | responseSent | finalReceived | repeatReceived => exact emitsTabled_of_trace_eq rfl

theorem exec_selected_emitsTabled {ss : BitVec 6} {i : Instr} {s s' : State} (hi : decodeSelector ss = .ok i)
    (h : exec i s = .next s') : EmitsTabled s s' := by
  cases hf : eventRule i with
  | none => exact exec_issue_emitsTabled hi hf h
  | some f =>
    rw [exec_of_eventRule hf] at h
    cases ho : decodeEvent s.events with
    | error e =>
      rw [awaitEvent_waits ho] at h
      cases h
      exact emitsTabled_of_trace_eq rfl
    | ok p =>
      obtain ⟨ev, rest⟩ := p
      rw [awaitEvent_offered ho] at h
      exact eventRule_emitsTabled (s := { s with events := rest }) hi hf h

/-- Settles O5: a stuck block emits nothing, and a block that is not performs the selected action. -/
theorem stepEmitsTabledWords : Obligations.StepEmitsTabledWords := by
  unfold Obligations.StepEmitsTabledWords
  intro s s' hp h
  change EmitsTabled s s'
  rcases step_cases s with ⟨i, -, -, hi, e⟩ | ⟨-, -, e⟩ | ⟨p, hq, -⟩
  · exact exec_selected_emitsTabled hi (e ▸ h)
  · rw [e] at h
    cases h
    rcases s.stuckStep_cases with e | ⟨rest, e⟩ <;> rw [e] <;> exact emitsTabled_of_trace_eq rfl
  · cases hp.symm.trans hq

end Sys2Proof.Machine
end

section
/-! A frame row, and any bytes on the probe port as a frame, is the reception of these bytes (60_exceptions.md R299;
45_driver_interface.md R258; log 7, 11, 21). Settles O47. -/

namespace Sys2Proof.Machine

open Sys2Proof

/-! ### What a decoded frame was on the wire (R84-R88) -/

theorem frameType?_eq_some {P : Params} {f : List Byte} {ty : FrameType} (h : frameType? P f = some ty) :
    headerMatches (P.template ty) f = true := by
  unfold frameType? at h
  split_ifs at h with hpoll hresp hfinal <;> cases h
  · exact hpoll
  · exact hresp
  · exact hfinal

/-- A header that matches a template is that template with the header's own sequence byte. -/
theorem eq_withSeq_of_headerMatches {t : Template} {f : List Byte} {seq : Byte} (hlen : f.length = 10)
    (hm : headerMatches t f = true) (hseq : f[seqIdx]? = some seq) : f = t.withSeq seq := by
  apply List.ext_getElem?
  intro i
  by_cases hi : i < 10
  · by_cases hne : i = seqIdx
    · subst hne
      rw [hseq, Template.withSeq, List.getElem?_set_self (by simp [seqIdx])]
    · rw [headerMatches_iff.1 hm i hi hne, Template.withSeq, List.getElem?_set_ne (Ne.symm hne)]
  · rw [List.getElem?_eq_none (by omega), List.getElem?_eq_none (by rw [withSeq_length]; omega)]

/-- The frame decoder reads nothing but the three frames, each from its own bytes. -/
theorem decodeFrame_eq_ok {P : Params} {bs r : List Byte} {i : Instr} (h : decodeFrame P bs = .ok (i, r)) :
    i.port = .frame ∧ bs = encode P i ++ r := by
  unfold decodeFrame at h
  obtain ⟨⟨hdr, r₁⟩, hhdr, h⟩ := except_bind_eq_ok h
  obtain ⟨⟨seq, r₂⟩, hseq, h⟩ := except_bind_eq_ok h
  obtain ⟨hbs, hlen⟩ := takeBytes_eq_ok hhdr
  have hseq : hdr[seqIdx]? = some seq := by
    rw [← List.head?_drop, takeU8_eq_ok hseq, List.head?_cons]
  have hframe : ∀ ty, frameType? P hdr = some ty → hdr = (P.template ty).withSeq seq :=
    fun ty hty => eq_withSeq_of_headerMatches hlen (frameType?_eq_some hty) hseq
  dsimp only at h
  split at h
  · next hty =>
    cases h
    exact ⟨rfl, by rw [hbs, hframe _ hty]; rfl⟩
  · next hty =>
    obtain ⟨⟨code, r₃⟩, hcode, h⟩ := except_bind_eq_ok h
    obtain ⟨⟨param, r₄⟩, hparam, h⟩ := except_bind_eq_ok h
    cases h
    refine ⟨rfl, ?_⟩
    rw [hbs, hframe _ hty, takeU8_eq_ok hcode, takeU16_eq_ok (bs := r₃) hparam]
    simp [encode, responseFrame, Params.template]
  · next hty =>
    obtain ⟨⟨a, r₃⟩, ha, h⟩ := except_bind_eq_ok h
    obtain ⟨⟨b, r₄⟩, hb, h⟩ := except_bind_eq_ok h
    obtain ⟨⟨c, r₅⟩, hc, h⟩ := except_bind_eq_ok h
    cases h
    refine ⟨rfl, ?_⟩
    rw [hbs, hframe _ hty, takeU32_eq_ok ha, takeU32_eq_ok (bs := r₃) hb, takeU32_eq_ok (bs := r₄) hc]
    simp [encode, finalFrame, Params.template]
  · cases h

/-! ### Received frames are RX_GOOD (R258, R299) -/

@[simp] theorem pollFrame_length (P : Params) (seq : Byte) : (pollFrame P seq).length = 10 :=
  encodePoll_length P seq

@[simp] theorem responseFrame_length (P : Params) (seq code : Byte) (param : U16) :
    (responseFrame P seq code param).length = 13 := by
  simp [responseFrame]

@[simp] theorem finalFrame_length (P : Params) (seq : Byte) (a b c : U32) :
    (finalFrame P seq a b c).length = 22 := by
  simp [finalFrame]

theorem encode_length_le_maxLen (P : Params) {i : Instr} (hp : i.port = .frame) :
    (encode P i).length ≤ maxLen := by
  cases i with
  | framePoll | frameResponse | frameFinal => simp [encode, maxLen]
  | _ => cases hp

/-- The three frame rows have one meaning. -/
theorem exec_frame {i : Instr} (hp : i.port = .frame) (s : State) :
    exec i s = receiveFrame (encode s.params i) s := by
  cases i with
  | framePoll | frameResponse | frameFinal => rfl
  | _ => cases hp

/-- A frame that an event can carry is received as the row of that event. -/
theorem receiveFrame_eq_exec {f : List Byte} (hf : f.length ≤ maxLen) (s : State) :
    receiveFrame f s = exec (.evRxGood (.ofTimestamp (Config.rxTimestamp s.draws)) f)
      { s with draws := s.draws + 1 } :=
  (if_pos hf).symm

theorem exec_frame_eq_exec_evRxGood {i : Instr} (hp : i.port = .frame) (s : State) :
    ∃ ts, exec i s = exec (.evRxGood ts (encode s.params i)) { s with draws := s.draws + 1 } :=
  ⟨_, (exec_frame hp s).trans (receiveFrame_eq_exec (encode_length_le_maxLen s.params hp) s)⟩

/-- Bytes on the probe port as a frame are received, whether they are one of the three frames or not. -/
theorem step_probe_frame {s : State} {f : List Byte} (hp : s.probe = some ⟨.frame, f⟩) :
    step s = receiveBytes f { s with probe := none } := by
  rcases step_cases s with ⟨-, hq, -⟩ | ⟨hq, -⟩ | ⟨p, hq, s0, rfl, h⟩
  · cases hp.symm.trans hq
  · cases hp.symm.trans hq
  · obtain rfl : (⟨.frame, f⟩ : Probe) = p := Option.some.inj (hp.symm.trans hq)
    rcases h with ⟨i, r, -, hd, hr, h⟩ | ⟨b, bs, hb, -⟩ | ⟨-, -, h⟩ | ⟨c, r, he, -, -⟩ | ⟨-, hne, -⟩
    · obtain ⟨hi, hf⟩ := decodeFrame_eq_ok hd
      rw [hr rfl, List.append_nil] at hf
      dsimp only at hf
      subst hf
      rw [h, exec_frame hi, receiveBytes, if_pos (encode_length_le_maxLen _ hi)]
    · cases hb
    · exact h
    · cases he
    · exact absurd rfl hne

/-! ### A pair accepts the frame it waits for (R125, R181, R152, R184, R186) -/

/-- A template's header and a payload of the right length are of that type, under either length check. -/
theorem matchesType_withSeq_append (P : Params) (ty : FrameType) (seq : Byte) {r : List Byte}
    (hlen : 10 + r.length = frameLen ty) : matchesType P ((P.template ty).withSeq seq ++ r) ty = true := by
  simp only [matchesType, headerMatches_withSeq_append, headerMatches_self, List.length_append, withSeq_length,
    hlen, Bool.and_true]
  cases P.lenCheck with
  | exact => exact beq_self_eq_true _
  | headerOnly => cases ty <;> rfl

theorem matchesType_pollFrame (P : Params) (seq : Byte) : matchesType P (pollFrame P seq) .poll = true := by
  simpa [pollFrame, Params.template] using matchesType_withSeq_append P .poll seq (r := []) rfl

theorem matchesType_responseFrame (P : Params) (seq code : Byte) (param : U16) :
    matchesType P (responseFrame P seq code param) .response = true := by
  simpa [responseFrame, Params.template] using
    matchesType_withSeq_append P .response seq (r := code :: le16 param) rfl

theorem matchesType_finalFrame (P : Params) (seq : Byte) (a b c : U32) :
    matchesType P (finalFrame P seq a b c) .final = true := by
  simpa [finalFrame, Params.template] using
    matchesType_withSeq_append P .final seq (r := le32 a ++ (le32 b ++ le32 c)) rfl

/-- A word within a frame is read at its offset. -/
theorem frameU32_append (p : List Byte) (v : U32) (r : List Byte) :
    frameU32 (p ++ (le32 v ++ r)) p.length = v := by
  simp [frameU32, le32, ofLe32_extract]

theorem decodeFinalTimestamps_finalFrame (P : Params) (seq : Byte) (a b c : U32) :
    decodeFinalTimestamps (finalFrame P seq a b c) = some (a, b, c) := by
  have ha := frameU32_append (P.hdrFinal.withSeq seq) a (le32 b ++ le32 c)
  have hb := frameU32_append (P.hdrFinal.withSeq seq ++ le32 a) b (le32 c)
  have hc := frameU32_append (P.hdrFinal.withSeq seq ++ le32 a ++ le32 b) c []
  simp only [List.length_append, withSeq_length, le32_length, List.append_assoc, List.append_nil] at ha hb hc
  rw [decodeFinalTimestamps, if_neg (by simp [frameLen])]
  simp [finalFrame, ha, hb, hc]

/-- A block that is not stuck applies its pair's rule to the frame. -/
theorem receiveFrame_of_eventRule {s : State} {ss : BitVec 6} {i : Instr} {rule : Event → State → Res}
    (hs : s.stuck = false) (hss : s.selector = ss) (hi : decodeSelector ss = .ok i) (hr : eventRule i = some rule)
    (f : List Byte) :
    receiveFrame f s =
      rule (.rxGood (.ofTimestamp (Config.rxTimestamp s.draws)) f) { s with draws := s.draws + 1 } :=
  eventStep_of_eventRule (s := { s with draws := s.draws + 1 }) hr hs (hss ▸ hi) _

theorem framePoll_answers {s : State} (hs : s.stuck = false) (hss : s.selector = 0x21#6) (seq : Byte) :
    ∃ ts, Answers (.framePoll seq) s s.events { s.arch with
      t3 := widen40To64 ts, valid := s.valid ||| 0x08#8, state := 0x9#4, phase := 0#2 } :=
  ⟨_, _, (receiveFrame_of_eventRule hs hss rfl rfl _).trans (if_pos (matchesType_pollFrame s.params seq)), rfl, rfl⟩

theorem frameResponse_answers {s : State} (hs : s.stuck = false) (hss : s.selector = 0x05#6) (seq code : Byte)
    (param : U16) :
    ∃ ts, Answers (.frameResponse seq code param) s s.events { s.arch with
      t1 := widen40To64 ts, valid := s.valid ||| 0x02#8, state := 0x2#4, phase := 0#2 } :=
  ⟨_, _, (receiveFrame_of_eventRule hs hss rfl rfl _).trans
    (if_pos (matchesType_responseFrame s.params seq code param)), rfl, rfl⟩

theorem frameFinal_answers {s : State} (hs : s.stuck = false) (hss : s.selector = 0x29#6) (seq : Byte)
    (a b c : U32) :
    ∃ ts, Answers (.frameFinal seq a b c) s s.events { s.arch with
      seq := s.seq + 1#8, t5 := widen40To64 ts, valid := s.valid ||| 0x20#8, state := 0xB#4, phase := 0#2 } :=
  ⟨_, _, (receiveFrame_of_eventRule hs hss rfl rfl _).trans
    (if_pos (matchesType_finalFrame s.params seq a b c)), rfl, rfl⟩

/-- R186 on a frame of the type whose payload decodes. -/
theorem onRAwaitFinalRepeatAwait_accepts {s : State} {ts : TsBytes} {f : List Byte} {a b c : U32}
    (hm : matchesType s.params f .final = true) (hd : decodeFinalTimestamps f = some (a, b, c)) :
    onRAwaitFinalRepeatAwait (.rxGood ts f) s =
      .next (((((s.answered (.rxGood ts f)).incSeq).writeEmbedded a b c).writeT .t6 (widen40To64 ts)).goto
        stRCompute phIssue) := by
  simp [onRAwaitFinalRepeatAwait, hm, hd]

/-- The repeated Final sets VALID[7] with its payload and VALID[6] with its timestamp (R38, R186). -/
theorem withValid_repeatedFinal (v : BitVec 8) :
    withValid (withValid v embeddedIndex) (tIndex .t6) = v ||| 0xC0#8 :=
  BitVec.or_assoc v _ _

theorem frameFinal_repeated_answers {s : State} (hs : s.stuck = false) (hss : s.selector = 0x2D#6) (seq : Byte)
    (a b c : U32) :
    ∃ ts, Answers (.frameFinal seq a b c) s s.events { s.arch with
      seq := s.seq + 1#8, e0 := a, e1 := b, e2 := c, t6 := widen40To64 ts
      valid := s.valid ||| 0xC0#8, state := 0xC#4, phase := 0#2 } := by
  refine ⟨.ofTimestamp (Config.rxTimestamp s.draws), _, (receiveFrame_of_eventRule hs hss rfl rfl _).trans
    (onRAwaitFinalRepeatAwait_accepts (matchesType_finalFrame s.params seq a b c)
      (decodeFinalTimestamps_finalFrame s.params seq a b c)), rfl, ?_⟩
  rw [← withValid_repeatedFinal]
  rfl

/-- Settles O47: a frame row and a frame on the probe port are both `receiveFrame`, whose event the pair that waits
for that type accepts. -/
theorem framesAreReceived : Obligations.FramesAreReceived := by
  unfold Obligations.FramesAreReceived
  intro s seq code param a b c
  refine ⟨exec_frame_eq_exec_evRxGood rfl s, exec_frame_eq_exec_evRxGood rfl s, exec_frame_eq_exec_evRxGood rfl s,
    ?_, ?_⟩
  · intro hs
    exact ⟨(framePoll_answers hs · seq), (frameResponse_answers hs · seq code param),
      (frameFinal_answers hs · seq a b c), (frameFinal_repeated_answers hs · seq a b c)⟩
  · intro f hp
    rw [step_probe_frame hp]
    exact ⟨fun hf => ⟨_, (if_pos hf).trans (receiveFrame_eq_exec hf _)⟩, fun hf => if_neg (Nat.not_le.2 hf)⟩

end Sys2Proof.Machine
end

section
/-! The Frame Codec (40_frame_codec.md R121-R128): the bytes of its words and of its frames, the header comparison,
and the laws that follow. Settles O6 to O10. -/

namespace Sys2Proof.Machine

open Sys2Proof

/-! ### The bytes of a word (R15, R126, R127) -/

theorem extract_byte_eq_shift {n : Nat} (v : BitVec n) (p : Nat) : v.extractLsb' p 8 = (v >>> p).setWidth 8 :=
  extract_byte_eq fun i hi => by simp [hi]

theorem le32_eq_shifts (v : U32) :
    le32 v = [v.setWidth 8, (v >>> 8).setWidth 8, (v >>> 16).setWidth 8, (v >>> 24).setWidth 8] := by
  simp [le32, extract_byte_eq_shift]

/-- Byte `i` of a word is its bits from `8 * i`. -/
theorem le32_getD (v : U32) {i : Nat} (hi : i < 4) : (le32 v).getD i 0#8 = (v >>> (8 * i)).setWidth 8 := by
  rw [le32_eq_shifts]
  interval_cases i <;> simp

/-- A word is the sum of its bytes at their places. -/
theorem toNat_eq_sum_of_le32 {w : U32} {b0 b1 b2 b3 : Byte} (h : le32 w = [b0, b1, b2, b3]) :
    w.toNat = b0.toNat + b1.toNat * 2 ^ 8 + b2.toNat * 2 ^ 16 + b3.toNat * 2 ^ 24 := by
  simp only [le32, List.cons.injEq, and_true] at h
  obtain ⟨rfl, rfl, rfl, rfl⟩ := h
  simp only [BitVec.extractLsb'_toNat, Nat.shiftRight_eq_div_pow]
  omega

/-- The bytes of a frame's word are the frame's bytes at its offset. -/
theorem frameU32_byte (f : List Byte) (o : Nat) {i : Nat} (hi : i < 4) :
    (frameU32 f o >>> (8 * i)).setWidth 8 = f.getD (o + i) 0#8 := by
  rw [← le32_getD _ hi, frameU32, le32_ofLe32]
  interval_cases i <;> rfl

/-- The low 32 bits of a timestamp have its four low bytes (R232). -/
theorem narrowTo32_byte (t : U64) {i : Nat} (hi : i < 4) :
    (narrowTo32 t >>> (8 * i)).setWidth 8 = (t >>> (8 * i)).setWidth 8 := by
  apply BitVec.eq_of_getLsbD_eq
  intro j hj
  have hbit : 8 * i + j < 32 := by omega
  simp [narrowTo32, hbit]

theorem narrowTo32_setWidth (v : U32) : narrowTo32 (v.setWidth 64) = v := by
  apply BitVec.eq_of_getLsbD_eq
  intro j hj
  have hj64 : j < 64 := by omega
  simp [narrowTo32, hj, hj64]

/-! ### The bytes of a frame (R84-R86) -/

/-- The header of a frame is its template with the sequence number at byte 2, whatever payload follows. -/
theorem header_getD (t : Template) (seq : Byte) (r : List Byte) {i : Nat} (hi : i < 10) :
    (t.withSeq seq ++ r).getD i 0#8 = if i = 2 then seq else t.toList.getD i 0#8 := by
  rw [List.getD_append _ _ _ _ (by simpa using hi), Template.withSeq]
  by_cases hseq : i = 2
  · subst hseq
    simp [seqIdx]
  · simp [seqIdx, hseq, Ne.symm hseq]

/-- A word's bytes stand in a frame from the word's offset. -/
theorem word_getD {p : List Byte} {o : Nat} (hp : p.length = o) (v : U32) (r : List Byte) {i : Nat} (hi : i < 4) :
    (p ++ (le32 v ++ r)).getD (o + i) 0#8 = (v >>> (8 * i)).setWidth 8 := by
  subst hp
  rw [List.getD_append_right _ _ _ _ (Nat.le_add_right _ _), Nat.add_sub_cancel_left,
    List.getD_append _ _ _ _ hi, le32_getD v hi]

/-- The three words of a Final stand at offsets 10, 14 and 18. -/
theorem finalFrame_getD (P : Params) (seq : Byte) (a b c : U32) {i : Nat} (hi : i < 4) :
    (finalFrame P seq a b c).getD (10 + i) 0#8 = (a >>> (8 * i)).setWidth 8 ∧
    (finalFrame P seq a b c).getD (14 + i) 0#8 = (b >>> (8 * i)).setWidth 8 ∧
    (finalFrame P seq a b c).getD (18 + i) 0#8 = (c >>> (8 * i)).setWidth 8 := by
  have ha := word_getD (withSeq_length P.hdrFinal seq) a (le32 b ++ le32 c) hi
  have hb := word_getD (p := P.hdrFinal.withSeq seq ++ le32 a) (o := 14) (by simp) b (le32 c) hi
  have hc := word_getD (p := P.hdrFinal.withSeq seq ++ le32 a ++ le32 b) (o := 18) (by simp) c [] hi
  simp only [List.append_assoc, List.append_nil] at ha hb hc
  simp only [finalFrame, List.append_assoc]
  exact ⟨ha, hb, hc⟩

/-! ### The encoders (R121-R123) -/

theorem encodePoll_eq (P : Params) (seq : Byte) : encodePoll P seq = (P.template .poll).withSeq seq ++ [] :=
  (List.append_nil _).symm

theorem encodeResponse_eq (P : Params) (seq : Byte) :
    encodeResponse P seq = (P.template .response).withSeq seq ++ (P.actCode :: le16 P.actParam) :=
  List.append_assoc _ _ _

theorem encodeFinal_eq (P : Params) (seq : Byte) (a b c : U64) :
    encodeFinal P seq a b c = (P.template .final).withSeq seq ++
      (le32 (narrowTo32 a) ++ (le32 (narrowTo32 b) ++ le32 (narrowTo32 c))) := by
  simp [encodeFinal, finalFrame, Params.template]

/-- Settles O6: each frame is a header and a payload, and the row writes nothing but the unit output. -/
theorem encodersBuildFrames : Obligations.EncodersBuildFrames := by
  unfold Obligations.EncodersBuildFrames
  intro s seq pollTx respRx finalTx
  refine ⟨⟨_, rfl, encodePoll_length _ _, ?poll⟩, ⟨_, rfl, encodeResponse_length _ _, ?response, ?activity⟩,
    ⟨_, rfl, encodeFinal_length _ _ _ _ _, ?final, ?words⟩⟩
  case poll =>
    rw [encodePoll_eq]
    exact fun i hi => header_getD _ seq _ hi
  case response =>
    rw [encodeResponse_eq]
    exact fun i hi => header_getD _ seq _ hi
  case activity =>
    rw [encodeResponse_eq, List.drop_left' (withSeq_length _ seq)]
    simp [le16, extract_byte_eq_shift]
  case final =>
    rw [encodeFinal_eq]
    exact fun i hi => header_getD _ seq _ hi
  case words =>
    intro i hi
    rw [← narrowTo32_byte pollTx hi, ← narrowTo32_byte respRx hi, ← narrowTo32_byte finalTx hi]
    exact finalFrame_getD s.params seq _ _ _ hi

/-! ### The decoder of a Final (R124) -/

theorem decodeFinalTimestamps_short {f : List Byte} (h : f.length < 22) : decodeFinalTimestamps f = none :=
  if_pos h

theorem decodeFinalTimestamps_long {f : List Byte} (h : 22 ≤ f.length) :
    decodeFinalTimestamps f = some (frameU32 f 10, frameU32 f 14, frameU32 f 18) :=
  if_neg (Nat.not_lt.2 h)

theorem exec_unitDecodeFinalTimestamps (f : List Byte) (s : State) :
    exec (.unitDecodeFinalTimestamps f) s = execUnitDecodeFinalTimestamps f s :=
  rfl

theorem exec_unitDecodeFinalTimestamps_none {f : List Byte} (s : State) (h : decodeFinalTimestamps f = none) :
    exec (.unitDecodeFinalTimestamps f) s = .next { s with unitOut := .decodeFail } := by
  rw [exec_unitDecodeFinalTimestamps, execUnitDecodeFinalTimestamps, h]
  rfl

theorem exec_unitDecodeFinalTimestamps_some {f : List Byte} {a b c : U32} (s : State)
    (h : decodeFinalTimestamps f = some (a, b, c)) :
    exec (.unitDecodeFinalTimestamps f) s = .next { s with unitOut := .timestamps a b c } := by
  rw [exec_unitDecodeFinalTimestamps, execUnitDecodeFinalTimestamps, h]
  rfl

/-- Settles O7: the decoder reads the words at its three offsets, which have the frame's bytes there. -/
theorem finalDecoderReadsFields : Obligations.FinalDecoderReadsFields := by
  unfold Obligations.FinalDecoderReadsFields
  intro s f
  constructor
  · intro hlen
    exact exec_unitDecodeFinalTimestamps_none s (decodeFinalTimestamps_short hlen)
  · intro hlen
    exact ⟨_, _, _, exec_unitDecodeFinalTimestamps_some s (decodeFinalTimestamps_long hlen),
      fun i hi => ⟨frameU32_byte f 10 hi, frameU32_byte f 14 hi, frameU32_byte f 18 hi⟩⟩

/-! ### The header comparison (R125) -/

/-- In a frame that holds a header, the bytes compared are all within it. -/
theorem headerMatches_iff_getD {t : Template} {f : List Byte} (hf : 10 ≤ f.length) :
    headerMatches t f = true ↔ ∀ i < 10, i ≠ 2 → f.getD i 0#8 = t.toList.getD i 0#8 := by
  rw [headerMatches_iff]
  refine forall_congr' fun i => forall_congr' fun hi => forall_congr' fun _ => ?_
  rw [List.getD_eq_getElem _ _ (by omega), List.getD_eq_getElem _ _ (by simpa using hi),
    List.getElem?_eq_getElem (by omega), List.getElem?_eq_getElem (by simpa using hi), Option.some.injEq]

/-- The length check of R125. -/
def LengthOk (P : Params) (f : List Byte) (t : FrameType) : Prop :=
  match P.lenCheck with
  | .exact => f.length = frameLen t
  | .headerOnly => 10 ≤ f.length

theorem matchesType_iff {P : Params} {f : List Byte} {t : FrameType} :
    matchesType P f t = true ↔ LengthOk P f t ∧ headerMatches (P.template t) f = true := by
  unfold matchesType LengthOk
  cases P.lenCheck <;> simp

theorem frameLen_ge (t : FrameType) : 10 ≤ frameLen t := by
  cases t <;> decide

/-- Either length check leaves room for a header. -/
theorem LengthOk.holds_header {P : Params} {f : List Byte} {t : FrameType} (h : LengthOk P f t) : 10 ≤ f.length := by
  unfold LengthOk at h
  split at h
  · exact h ▸ frameLen_ge t
  · exact h

/-- Settles O8: where the length check passes, the comparison is of bytes within the frame. -/
theorem matcherComparesHeader : Obligations.MatcherComparesHeader := by
  unfold Obligations.MatcherComparesHeader
  intro s f t
  refine ⟨matchesType s.params f t, rfl, ?_⟩
  have h : matchesType s.params f t = true ↔ LengthOk s.params f t ∧
      ∀ i < 10, i ≠ 2 → f.getD i 0#8 = (s.params.template t).toList.getD i 0#8 :=
    matchesType_iff.trans (and_congr_right fun hlen => headerMatches_iff_getD hlen.holds_header)
  cases t <;> exact h

/-! ### Words (R126, R127) -/

/-- Settles O9: four bytes decode to the word they are the bytes of. -/
theorem littleEndianWords : Obligations.LittleEndianWords := by
  unfold Obligations.LittleEndianWords
  intro s b0 b1 b2 b3 v
  refine ⟨⟨_, rfl, toNat_eq_sum_of_le32 (le32_ofLe32 b0 b1 b2 b3)⟩, ?_⟩
  rw [← le32_eq_shifts]
  rfl

/-! ### The codec laws (R128) -/

theorem encodeFinal_setWidth (P : Params) (seq : Byte) (a b c : U32) :
    encodeFinal P seq (a.setWidth 64) (b.setWidth 64) (c.setWidth 64) = finalFrame P seq a b c := by
  simp only [encodeFinal, narrowTo32_setWidth]

theorem differs_comm (t u : Template) : Template.differs t u = Template.differs u t := by
  simp only [Template.differs, bne_comm]

/-- R8 (b), for the templates of any two types. -/
theorem template_differs {P : Params} (hP : P.wf = true) {t u : FrameType} (h : t ≠ u) :
    Template.differs (P.template t) (P.template u) = true := by
  simp only [Params.wf, Bool.and_eq_true] at hP
  obtain ⟨⟨⟨-, hpr⟩, hpf⟩, hrf⟩ := hP
  cases t <;> cases u
  case poll.poll | response.response | final.final => exact absurd rfl h
  case poll.response => exact hpr
  case poll.final => exact hpf
  case response.final => exact hrf
  case response.poll => exact (differs_comm _ _).trans hpr
  case final.poll => exact (differs_comm _ _).trans hpf
  case final.response => exact (differs_comm _ _).trans hrf

/-- A frame with the header of one type is of no other type. -/
theorem matchesType_of_ne {P : Params} (hP : P.wf = true) {t u : FrameType} (h : t ≠ u) (seq : Byte)
    (r : List Byte) : matchesType P ((P.template u).withSeq seq ++ r) t = false := by
  rw [matchesType, headerMatches_withSeq_append, headerMatches_eq_false_of_differs (template_differs hP h),
    Bool.and_false]

/-- Settles O10: (a) and (b) are the byte laws of words, (c) and (d) those of a header with its payload. -/
theorem codecLaws : Obligations.CodecLaws := by
  unfold Obligations.CodecLaws
  refine ⟨?roundTrip, ?words, ?types⟩
  case roundTrip =>
    intro P seq a b c
    rw [encodeFinal_setWidth, decodeFinalTimestamps_finalFrame]
  case words =>
    intro v b0 b1 b2 b3
    exact ⟨le32_ofLe32 b0 b1 b2 b3, ofLe32_extract v⟩
  case types =>
    intro P seq a b c t
    refine ⟨⟨matchesType_pollFrame P seq, matchesType_responseFrame P seq _ _, matchesType_finalFrame P seq _ _ _⟩, ?_⟩
    rw [encodePoll_eq, encodeResponse_eq, encodeFinal_eq]
    exact fun hP => ⟨(matchesType_of_ne hP · seq _), (matchesType_of_ne hP · seq _), (matchesType_of_ne hP · seq _)⟩

end Sys2Proof.Machine
end

section
/-! What a claim says an instruction answers (`Answers`, `Sends`), from what its meaning is made of: an event's
rule, the failure path of R283, a frame that is sent (R40, R251). -/

namespace Sys2Proof.Machine

open Sys2Proof

/-! ### The event of an AWAIT or PAUSE action (R11, R260) -/

/-- With an event offered, the action is its rule on the event, whose bytes are off the port. -/
theorem exec_offered {i : Instr} {f : Event → State → Res} {s : State} {ev : Event} {rest : List Byte}
    (hf : eventRule i = some f) (ho : Offered s ev rest) : exec i s = f ev { s with events := rest } :=
  (exec_of_eventRule hf s).trans (awaitEvent_offered ho)

/-- A rule that answers a next state and leaves the port alone. -/
theorem answers_of_rule {i : Instr} {f : Event → State → Res} {s t a : State} {ev : Event}
    {rest : List Byte} (hf : eventRule i = some f) (ho : Offered s ev rest)
    (ht : f ev { s with events := rest } = .next t) (hev : t.events = rest) (ha : t.arch = a) :
    Answers i s rest a :=
  ⟨t, (exec_offered hf ho).trans ht, hev, ha⟩

/-! ### The failure path (R280, R283) -/

theorem State.fail_arch (s : State) (k : FailKind) (st : BitVec 4) :
    (s.fail k st).arch = failedArch s ((failCode k).setWidth 8) st := by
  simp [State.fail_eq, State.arch, failedArch, withLastErr]

/-- A rule that answers an event by the failure path. -/
theorem answers_failed {i : Instr} {f : Event → State → Res} {s : State} {ev : Event} {rest : List Byte}
    (k : FailKind) (st : BitVec 4) (hf : eventRule i = some f) (ho : Offered s ev rest)
    (ht : f ev { s with events := rest } = .next ((State.answered { s with events := rest } ev).fail k st)) :
    Answers i s rest (failedArch s ((failCode k).setWidth 8) st) :=
  answers_of_rule hf ho ht rfl (State.fail_arch _ k st)

/-! ### Sending a frame (R40, R91, R251) -/

/-- TXBUF after a whole frame from offset 0. -/
theorem frameStored_of_txbuf_eq {s t : State} {frame : List Byte} (hw : Memory.wf s.txbuf = true)
    (hlen : frame.length ≤ txbufSize) (ht : t.txbuf = Memory.writeFrom s.txbuf 0 frame) :
    FrameStored s t frame := by
  intro x
  rw [ht, Memory.read_writeFrom hw (by omega)]
  simp

/-- A meaning that sends a frame from `s1`, which has the TXBUF of `s`. -/
theorem sends_of_sendFrame {i : Instr} {s s1 : State} {mode : TxMode} {rxa : Bool} {rxto : RxTimeout} {dly : U32}
    {frame : List Byte} {n : Nat} {st : BitVec 4} (hw : Memory.wf s.txbuf = true) (hbuf : s1.txbuf = s.txbuf)
    (hn : frame.length = n) (hlen : n ≤ txbufSize)
    (hexec : exec i s = s1.sendFrame mode rxa rxto dly frame st) :
    Sends i s s1.events s1.arch mode rxa rxto dly frame (BitVec.ofNat 5 n) st := by
  subst hn
  rw [State.sendFrame_eq s1 mode rxa rxto dly st (hbuf ▸ hw) hlen] at hexec
  exact ⟨_, hexec, rfl, frameStored_of_txbuf_eq hw hlen (by simp [hbuf]), rfl⟩

/-- The word of a TX command depends on the frame by its length alone. -/
theorem commandWord_tx_of_length {frame : List Byte} {n : Nat} (mode : TxMode) (rxa : Bool) (rxto : RxTimeout)
    (dly : U32) (hn : frame.length = n) :
    commandWord (.tx mode rxa rxto dly frame) =
      packCommand 1#4 mode.code (BitVec.ofBool rxa) rxto.code 0#2 (BitVec.ofNat 8 n) := by
  rw [commandWord, hn]

end Sys2Proof.Machine
end

section
/-! The Initiator's state actions (41_initiator.md R150-R159). Settles O21 to O29. -/

namespace Sys2Proof.Machine

open Sys2Proof

/-! ### The actions that send a frame (R150, R153, R156) -/

/-- Settles O21: the Poll is sent from the state after the exchange clear. -/
theorem sendPollIssue : Obligations.SendPollIssue := by
  unfold Obligations.SendPollIssue
  intro s hw
  have hlen := encodePoll_length s.params s.seq
  refine ⟨?_, ?_⟩
  · exact sends_of_sendFrame (s1 := s.clearInitiator) hw rfl hlen (by decide) rfl
  · rw [commandWord_tx_of_length _ _ _ _ hlen]
    rfl

/-- R153 with T0 and T1 valid: the first Final is sent from the state that holds the predicted T2. -/
theorem execISendFinalIssue_valid {s : State} (hv : s.validAll [.t0, .t1] = true) {a : U32} {t2 : U64}
    (ha : alignDelayedTx (s.t1 + s.params.respToFinalDelay.setWidth 64) = a)
    (ht2 : predictFinalTx a s.cfgAntDly = t2) :
    execISendFinalIssue s = (s.writeT .t2 t2).sendFrame s.params.finalTxMode false .noTimeout a
      (encodeFinal s.params s.seq s.t0 s.t1 t2) stISendFinal := by
  subst ha ht2
  exact if_pos hv

/-- Settles O24: the valid bits are the guard of R291, and the write of T2 leaves TXBUF alone. -/
theorem sendFinalIssue : Obligations.SendFinalIssue := by
  unfold Obligations.SendFinalIssue
  intro s hw hv a t2
  have hsend : exec .iSendFinalIssue s = _ := execISendFinalIssue_valid (State.validAll_of_and hv rfl) rfl rfl
  exact sends_of_sendFrame (s1 := s.writeT .t2 t2) hw (s.writeT_txbuf .t2 t2) (encodeFinal_length _ _ _ _ _)
    (by decide) hsend

/-- R156 with T0, T1 and T2 valid. -/
theorem onISendFinalRepeatPause_valid {s : State} (hv : s.validAll [.t0, .t1, .t2] = true) :
    onISendFinalRepeatPause .delayDone s = (s.answered .delayDone).sendFrame .immediate false .noTimeout 0#32
      (encodeFinal s.params s.seq s.t0 s.t1 s.t2) stISendFinalRepeat :=
  if_pos hv

/-- Settles O27: the frame is sent from the state with the event off the port and answered. -/
theorem sendFinalRepeatPause : Obligations.SendFinalRepeatPause := by
  unfold Obligations.SendFinalRepeatPause
  intro s rest hw hv ho
  have hlen := encodeFinal_length s.params s.seq s.t0 s.t1 s.t2
  have hvalid : State.validAll { s with events := rest } [.t0, .t1, .t2] = true := State.validAll_of_and hv rfl
  have hsend := (exec_offered (i := .iSendFinalRepeatPause) rfl ho).trans (onISendFinalRepeatPause_valid hvalid)
  refine ⟨?_, ?_⟩
  · exact sends_of_sendFrame (s1 := State.answered { s with events := rest } .delayDone) hw rfl hlen
      (by decide) hsend
  · rw [commandWord_tx_of_length _ _ _ _ hlen]
    rfl

/-! ### The actions that wait for the end of a transmission (R151, R154, R157) -/

/-- Settles O22: a captured T0, or the failure path back to I_SEND_POLL. -/
theorem sendPollAwait : Obligations.SendPollAwait := by
  unfold Obligations.SendPollAwait
  intro s ts rest
  refine ⟨fun ho => ?_, fun ho => ?_⟩
  · exact answers_of_rule rfl ho rfl rfl rfl
  · exact answers_failed .transmitFailure stISendPoll rfl ho rfl

/-- Settles O25: T2 with the reported time, or the failure path to I_IDLE. -/
theorem sendFinalAwait : Obligations.SendFinalAwait := by
  unfold Obligations.SendFinalAwait
  intro s ts rest
  refine ⟨fun ho => ?_, fun ho => ?_⟩
  · exact answers_of_rule rfl ho rfl rfl rfl
  · exact answers_failed .transmitFailure stIIdle rfl ho rfl

/-- Settles O28: SEQ alone, or the failure path to I_IDLE. -/
theorem sendFinalRepeatAwait : Obligations.SendFinalRepeatAwait := by
  unfold Obligations.SendFinalRepeatAwait
  intro s ts rest
  refine ⟨fun ho => ?_, fun ho => ?_⟩
  · exact answers_of_rule rfl ho rfl rfl rfl
  · exact answers_failed .transmitFailure stIIdle rfl ho rfl

/-! ### The action that waits for the Response (R152) -/

/-- R152 on a Response. -/
theorem onIAwaitResponseAwait_accepts {s : State} {ts : TsBytes} {f : List Byte}
    (hm : matchesType s.params f .response = true) :
    onIAwaitResponseAwait (.rxGood ts f) s =
      .next (((s.answered (.rxGood ts f)).writeT .t1 (widen40To64 ts)).goto stISendFinal phIssue) :=
  if_pos hm

/-- R152 on another frame. -/
theorem onIAwaitResponseAwait_mismatch {s : State} {ts : TsBytes} {f : List Byte}
    (hm : matchesType s.params f .response = false) :
    onIAwaitResponseAwait (.rxGood ts f) s =
      .next ((s.answered (.rxGood ts f)).fail .frameMismatch stIIdle) :=
  if_neg (ne_true_of_eq_false hm)

/-- Settles O23: three events take the failure path, each with its code, and a Response is captured. -/
theorem awaitResponse : Obligations.AwaitResponse := by
  unfold Obligations.AwaitResponse
  intro s ts f rest
  refine ⟨fun ho => ?_, fun ho => ?_, fun ho hm => ?_, fun ho hm => ?_⟩
  · exact answers_failed .receiveTimeout stIIdle rfl ho rfl
  · exact answers_failed .receiveError stIIdle rfl ho rfl
  · exact answers_failed .frameMismatch stIIdle rfl ho
      (onIAwaitResponseAwait_mismatch (s := { s with events := rest }) hm)
  · exact answers_of_rule rfl ho (onIAwaitResponseAwait_accepts (s := { s with events := rest }) hm) rfl rfl

/-! ### The actions that emit one command and wait, and the end of the idle delay (R155, R158, R159, R185) -/

/-- An ISSUE action of one command: the output gains it, and the block is at the pair where it waits. -/
theorem answers_of_emit_goto {i : Instr} {s : State} (c : Command) (st : BitVec 4) (ph : BitVec 2)
    (h : exec i s = .next ((s.emit c).goto st ph)) :
    Answers i s s.events { s.arch with trace := s.trace ++ [.cmd c], state := st, phase := ph } :=
  ⟨_, h, rfl, rfl⟩

/-- Settles O26: three instances of one shape. -/
theorem waitAndRearmIssue : Obligations.WaitAndRearmIssue := by
  unfold Obligations.WaitAndRearmIssue
  intro s
  refine ⟨?_, ?_, ?_, by decide, by decide, by decide⟩
  · exact answers_of_emit_goto (.wait .finalRepeatPause) stISendFinalRepeat phPause rfl
  · exact answers_of_emit_goto (.wait .interRanging) stIIdle phAwait rfl
  · exact answers_of_emit_goto (.armRx .noTimeout) stRAwaitFinalRepeat phAwait rfl

/-- Settles O29: the rule is a single move to the ISSUE pair of I_SEND_POLL. -/
theorem idleAwait : Obligations.IdleAwait := by
  unfold Obligations.IdleAwait
  intro s rest ho
  exact answers_of_rule rfl ho rfl rfl rfl

end Sys2Proof.Machine
end

section
/-! The quotient of the Ranging Calculator (43_ranging.md R212-R215): it fits an `s64`, so `TOF_DTU` is the
quotient itself. -/

namespace Sys2Proof.Machine

open Sys2Proof

/-- A product of two intervals is at most half their sum times the greatest interval. -/
theorem two_mul_interval_mul_le (x y : U32) :
    2 * (x.toNat * y.toNat) ≤ (2 ^ 32 - 1) * (x.toNat + y.toNat) := by
  have hx : x.toNat * y.toNat ≤ (2 ^ 32 - 1) * y.toNat := Nat.mul_le_mul_right _ (Nat.le_sub_one_of_lt x.isLt)
  have hy : x.toNat * y.toNat ≤ x.toNat * (2 ^ 32 - 1) := Nat.mul_le_mul_left _ (Nat.le_sub_one_of_lt y.isLt)
  omega

/-- Twice the numerator is at most the greatest interval times the denominator. -/
theorem two_mul_natAbs_rangingNum_le (v : Intervals) :
    2 * (rangingNum v).natAbs ≤ (2 ^ 32 - 1) * (rangingDen v).natAbs := by
  have hr := two_mul_interval_mul_le v.ra v.rb
  have hd := two_mul_interval_mul_le v.da v.db
  have hnum : rangingNum v = ((v.ra.toNat * v.rb.toNat : Nat) : Int) - ((v.da.toNat * v.db.toNat : Nat) : Int) := by
    simp [rangingNum]
  have hden : rangingDen v = ((v.ra.toNat + v.rb.toNat + v.da.toNat + v.db.toNat : Nat) : Int) := by
    simp [rangingDen]
  omega

/-- R215: the magnitude of the quotient. -/
theorem natAbs_tofInt_le (v : Intervals) : (tofInt v).natAbs ≤ 2 ^ 31 - 1 := by
  unfold tofInt
  split
  · decide
  · next hden =>
    have hpos : 0 < (rangingDen v).natAbs := Int.natAbs_pos.2 hden
    have hnum := two_mul_natAbs_rangingNum_le v
    rw [Int.natAbs_tdiv]
    refine (Nat.div_le_iff_le_mul_add_pred hpos).2 ?_
    omega

/-- `TOF_DTU` read as an `s64` is the quotient. -/
theorem tofDeviceUnits_toInt (v : Intervals) : (tofDeviceUnits v).toInt = tofInt v := by
  have h := natAbs_tofInt_le v
  exact BitVec.toInt_ofInt_eq_self (by decide) (by omega) (by omega)

/-- R213, R214: the two cases of the denominator. -/
theorem quotientRule_tofDeviceUnits (v : Intervals) :
    QuotientRule v.ra v.rb v.da v.db (tofDeviceUnits v) (tofDegen v) := by
  change if rangingDen v = 0 then tofDeviceUnits v = 0#64 ∧ tofDegen v = true
    else tofDegen v = false ∧ (tofDeviceUnits v).toInt = Int.tdiv (rangingNum v) (rangingDen v)
  split
  · next hden => exact ⟨by simp [tofDeviceUnits, tofInt, hden], by simp [tofDegen, hden]⟩
  · next hden => exact ⟨by simp [tofDegen, hden], by simp [tofDeviceUnits_toInt, tofInt, hden]⟩

end Sys2Proof.Machine
end

section
/-! The Responder's state actions (42_responder.md R180-R187, R190). Settles O30 to O36 and O52. -/

namespace Sys2Proof.Machine

open Sys2Proof

/-! ### The Responder's ISSUE actions of one command (R180, R182) -/

/-- The block that waits for a Poll: what R180 makes of a state. -/
def State.awaitingPoll (s : State) : State :=
  (s.clearResponder.emit (.armRx .noTimeout)).goto stRAwaitPoll phAwait

theorem exec_rAwaitPollIssue (s : State) : exec .rAwaitPollIssue s = .next s.awaitingPoll := rfl

/-- Settles O30: the state R180 makes, read through its operations. -/
theorem awaitPollIssue : Obligations.AwaitPollIssue := by
  unfold Obligations.AwaitPollIssue
  intro s
  refine ⟨?_, by decide⟩
  exact ⟨s.awaitingPoll, exec_rAwaitPollIssue s, rfl, rfl⟩

/-- Settles O32: the Response is sent from the state as it is. -/
theorem sendResponseIssue : Obligations.SendResponseIssue := by
  unfold Obligations.SendResponseIssue
  intro s hw
  have hlen := encodeResponse_length s.params s.seq
  refine ⟨?_, ?_⟩
  · exact sends_of_sendFrame (s1 := s) hw rfl hlen (by decide) rfl
  · rw [commandWord_tx_of_length _ _ _ _ hlen]
    rfl

/-! ### The actions that wait for the Poll and for the end of the Response (R181, R183) -/

/-- Settles O31: three events take the failure path, each with its code, and a Poll is captured. -/
theorem awaitPollAwait : Obligations.AwaitPollAwait := by
  unfold Obligations.AwaitPollAwait
  intro s ts f rest
  refine ⟨fun ho => ?_, fun ho => ?_, fun ho hm => ?_, fun ho hm => ?_⟩
  · exact answers_failed .receiveTimeout stRAwaitPoll rfl ho rfl
  · exact answers_failed .receiveError stRAwaitPoll rfl ho rfl
  · exact answers_failed .frameMismatch stRAwaitPoll rfl ho (if_neg (ne_true_of_eq_false hm))
  · exact answers_of_rule rfl ho (if_pos hm) rfl rfl

/-- Settles O33: a captured T4, or the failure path back to R_AWAIT_POLL. -/
theorem sendResponseAwait : Obligations.SendResponseAwait := by
  unfold Obligations.SendResponseAwait
  intro s ts rest
  refine ⟨fun ho => ?_, fun ho => ?_⟩
  · exact answers_of_rule rfl ho rfl rfl rfl
  · exact answers_failed .transmitFailure stRAwaitPoll rfl ho rfl

/-! ### The actions that wait for a Final and count SEQ on every event (R184, R186) -/

/-- A rule that counts SEQ and then takes the failure path. -/
theorem answers_counted_failed {i : Instr} {f : Event → State → Res} {s : State} {ev : Event} {rest : List Byte}
    (k : FailKind) (st : BitVec 4) (hf : eventRule i = some f) (ho : Offered s ev rest)
    (ht : f ev { s with events := rest } =
      .next ((State.answered { s with events := rest } ev).incSeq.fail k st)) :
    Answers i s rest (failedArch { s with seq := s.seq + 1#8 } ((failCode k).setWidth 8) st) :=
  answers_of_rule hf ho ht rfl (State.fail_arch _ k st)

/-- Settles O34: every outcome starts from the counted SEQ, and a Final is captured by its header alone. -/
theorem awaitFinal : Obligations.AwaitFinal := by
  unfold Obligations.AwaitFinal
  intro s ts f rest counted
  refine ⟨fun ho => ?_, fun ho => ?_, fun ho hm => ?_, fun ho hm => ?_⟩
  · exact answers_counted_failed .receiveTimeout stRAwaitPoll rfl ho rfl
  · exact answers_counted_failed .receiveError stRAwaitPoll rfl ho rfl
  · exact answers_counted_failed .frameMismatch stRAwaitPoll rfl ho (if_neg (ne_true_of_eq_false hm))
  · exact answers_of_rule rfl ho (if_pos hm) rfl rfl

/-- R186 on a frame of another type, or one whose payload does not decode. -/
theorem onRAwaitFinalRepeatAwait_mismatch {s : State} {ts : TsBytes} {f : List Byte}
    (h : matchesType s.params f .final = false ∨ decodeFinalTimestamps f = none) :
    onRAwaitFinalRepeatAwait (.rxGood ts f) s =
      .next ((s.answered (.rxGood ts f)).incSeq.fail .frameMismatch stRAwaitPoll) := by
  unfold onRAwaitFinalRepeatAwait
  rcases h with hm | hd
  · simp [hm]
  · simp [hd]

/-- Settles O35: a decode failure is a mismatch, and the payload and its timestamp set VALID[7:6]. -/
theorem awaitFinalRepeat : Obligations.AwaitFinalRepeat := by
  unfold Obligations.AwaitFinalRepeat
  intro s ts f rest counted
  refine ⟨fun ho => ?_, fun ho => ?_, fun ho h => ?_, fun a b c ho hm hd => ?_⟩
  · exact answers_counted_failed .receiveTimeout stRAwaitPoll rfl ho rfl
  · exact answers_counted_failed .receiveError stRAwaitPoll rfl ho rfl
  · exact answers_counted_failed .frameMismatch stRAwaitPoll rfl ho
      (onRAwaitFinalRepeatAwait_mismatch (s := { s with events := rest }) h)
  · refine answers_of_rule rfl ho (onRAwaitFinalRepeatAwait_accepts (s := { s with events := rest }) hm hd) rfl ?_
    rw [← withValid_repeatedFinal]
    rfl

/-! ### The ranging result (R187) -/

theorem narrowTo32_eq_setWidth (t : U64) : narrowTo32 t = t.setWidth 32 :=
  (BitVec.setWidth_eq_extractLsb' (by decide)).symm

/-- The register of the local final-RX timestamp, by FINAL_RX_SOURCE (R187). -/
theorem State.readT_finalRxReg (s : State) (src : FinalRxSource) :
    s.readT (finalRxReg src) = if src = .second then s.t6 else s.t5 := by
  cases src <;> rfl

/-- The valid bits of R187 are the guard of R291. -/
theorem compute_registers_valid {s : State} {src : FinalRxSource}
    (hv : s.valid &&& (if src = .second then 0xD8#8 else 0xB8#8) = if src = .second then 0xD8#8 else 0xB8#8) :
    (s.validE && s.validAll [.t3, .t4, finalRxReg src]) = true := by
  rw [Bool.and_eq_true]
  cases src with
  | first => exact ⟨State.validE_of_and hv rfl, State.validAll_of_and hv rfl⟩
  | second => exact ⟨State.validE_of_and hv rfl, State.validAll_of_and hv rfl⟩

/-- R187 with its registers valid, the final-RX register being `src`'s. -/
theorem exec_rComputeIssue_valid {s : State} {src : FinalRxSource} (hsrc : s.params.finalRxSource = src)
    (hv : (s.validE && s.validAll [.t3, .t4, finalRxReg src]) = true) :
    exec .rComputeIssue s = .next ((s.putResult (ranging s.e0 s.e1 s.e2 (narrowTo32 s.t3) (narrowTo32 s.t4)
      (narrowTo32 (s.readT (finalRxReg src))))).goto stRAwaitPoll phIssue) := by
  subst hsrc
  exact if_pos hv

/-- Settles O36: the record is that of `ranging` on the registers, whose quotient is R213's and R214's. -/
theorem computeEmitsResult : Obligations.ComputeEmitsResult := by
  unfold Obligations.ComputeEmitsResult
  intro s second need frx hv
  have hfrx : narrowTo32 (s.readT (finalRxReg s.params.finalRxSource)) = frx.setWidth 32 := by
    rw [narrowTo32_eq_setWidth, State.readT_finalRxReg]
  have hexec := exec_rComputeIssue_valid rfl (compute_registers_valid hv)
  refine ⟨_, ⟨_, hexec, rfl, rfl⟩, rfl, ?_, rfl, ?_, ?_⟩
  · exact congrArg₂ sub32 hfrx (narrowTo32_eq_setWidth s.t4)
  · exact congrArg₂ sub32 (narrowTo32_eq_setWidth s.t4) (narrowTo32_eq_setWidth s.t3)
  · exact quotientRule_tofDeviceUnits (rangingIntervals s.e0 s.e1 s.e2 _ _ _)

/-! ### A receive timeout in R_AWAIT_POLL (R190) -/

/-- The block that has answered a receive timeout by the failure path of R181. -/
def State.pollTimedOut (s : State) (rest : List Byte) : State :=
  (State.answered { s with events := rest } .rxTimeout).fail .receiveTimeout stRAwaitPoll

theorem State.awaitingPoll_selector (s : State) : s.awaitingPoll.selector = 0x21#6 := by
  rw [State.awaitingPoll, State.goto_selector]
  decide

theorem State.pollTimedOut_selector (s : State) (rest : List Byte) :
    (s.pollTimedOut rest).selector = 0x20#6 := by
  rw [State.pollTimedOut, State.fail, State.goto_selector]
  decide

/-- R181 on RX_TIMEOUT. -/
theorem exec_rAwaitPollAwait_rxTimeout {s : State} {rest : List Byte} (ho : Offered s .rxTimeout rest) :
    exec .rAwaitPollAwait s = .next (s.pollTimedOut rest) :=
  exec_offered (f := onRAwaitPollAwait) rfl ho

/-- A running block's step is the action of its pair. -/
theorem Running.step_eq {s : State} {ss : BitVec 6} {i : Instr} (hr : Running s) (hss : s.selector = ss)
    (hi : decodeSelector ss = .ok i) : step s = exec i s := by
  obtain ⟨hs, hp⟩ := hr
  exact step_selected hp hs (hss ▸ hi)

/-- R180 as a step, after which the block runs on. -/
theorem step_awaitPollIssue {s : State} (hr : Running s) (hss : s.selector = 0x20#6) :
    step s = .next s.awaitingPoll ∧ Running s.awaitingPoll := by
  obtain ⟨hrun, -⟩ := Issues.running_captured .awaitPoll hss hr BitVec.and_zero
  exact ⟨(hr.step_eq hss rfl).trans (exec_rAwaitPollIssue s), hrun⟩

/-- R181 as a step on RX_TIMEOUT, after which the block runs on. -/
theorem step_awaitPoll_rxTimeout {s : State} {rest : List Byte} (hr : Running s) (hss : s.selector = 0x21#6)
    (ho : Offered s .rxTimeout rest) :
    step s = .next (s.pollTimedOut rest) ∧ Running (s.pollTimedOut rest) := by
  obtain ⟨hrun, -⟩ := State.fail_running_captured (s := s) (ss := 0x21#6) (k := .receiveTimeout)
    (t := State.answered { s with events := rest } .rxTimeout) hr hss (.inr rfl) rfl rfl rfl
  exact ⟨(hr.step_eq hss rfl).trans (exec_rAwaitPollAwait_rxTimeout ho), hrun⟩

/-- The exchange clear of a cleared exchange leaves VALID (R39). -/
theorem clearValidResponder_idem (v : BitVec 8) :
    clearValidResponder (clearValidResponder v) = clearValidResponder v := by
  simp [clearValidResponder, BitVec.and_assoc]

/-- From a block that waits for a Poll, a timeout and the step after it change LAST_ERR and the outputs alone. -/
theorem State.awaitingPoll_pollTimedOut_arch (s : State) (rest : List Byte) :
    (s.awaitingPoll.pollTimedOut rest).awaitingPoll.arch = { s.awaitingPoll.arch with
      status := (s.awaitingPoll.status &&& 0xF8#8) ||| 2#8
      trace := s.awaitingPoll.trace ++ [.cmd .clearStatus, .cmd .resetRx, .cmd (.armRx .noTimeout)] } := by
  have hvalid := clearValidResponder_idem s.valid
  simp [State.awaitingPoll, State.pollTimedOut, State.arch, State.fail_eq, State.clearResponder, State.emit,
    State.goto, State.answered, withLastErr, failCode, hvalid]

/-- Settles O52: the arm, the timeout's failure path and the arm again, of which the last finds the exchange already
clear. -/
theorem timeoutIsIdempotent : Obligations.TimeoutIsIdempotent := by
  unfold Obligations.TimeoutIsIdempotent
  intro s rest hr hss ho
  obtain ⟨h1, hr1⟩ := step_awaitPollIssue hr hss
  obtain ⟨h2, hr2⟩ := step_awaitPoll_rxTimeout (rest := rest) hr1 s.awaitingPoll_selector ho
  obtain ⟨h3, -⟩ := step_awaitPollIssue hr2 (State.pollTimedOut_selector _ rest)
  refine ⟨_, _, _, h1, h2, h3, s.awaitingPoll_selector, rfl, ?_, State.awaitingPoll_pollTimedOut_arch s rest⟩
  exact (BitVec.and_assoc s.valid 0x07#8 0xF8#8).trans BitVec.and_zero

end Sys2Proof.Machine
end

section
/-! The Ranging Calculator (43_ranging.md R211-R220): its intervals, its quotient where that is exact, and the sign
of the distance. Settles O15 to O20. -/

namespace Sys2Proof.Machine

open Sys2Proof

/-! ### The intervals (R211) -/

/-- R233 on the operands as integers: what wraps below 0 is read modulo 2^32. -/
theorem sub32_toNat (x y : U32) : ((sub32 x y).toNat : Int) = ((x.toNat : Int) - y.toNat) % 2 ^ 32 := by
  have hx := x.isLt
  have hy := y.isLt
  rw [sub32, BitVec.toNat_sub]
  omega

theorem exec_unitRangingIntervals (pt rr ft prx rtx frx : U32) (s : State) :
    exec (.unitRangingIntervals pt rr ft prx rtx frx) s =
      .next (s.setUnitOut (.intervals (sub32 rr pt) (sub32 frx rtx) (sub32 ft rr) (sub32 rtx prx))) := rfl

/-- Settles O15: each interval is one subtraction of R233. -/
theorem intervalsAreDifferences : Obligations.IntervalsAreDifferences := by
  unfold Obligations.IntervalsAreDifferences
  intro s pt rr ft prx rtx frx
  exact ⟨_, _, _, _, exec_unitRangingIntervals pt rr ft prx rtx frx s,
    sub32_toNat rr pt, sub32_toNat frx rtx, sub32_toNat ft rr, sub32_toNat rtx prx⟩

/-! ### The quotient (R213-R215, R219, R220) -/

theorem exec_unitTofDeviceUnits (ra rb da db : U32) (s : State) :
    exec (.unitTofDeviceUnits ra rb da db) s =
      .next (s.setUnitOut (.tof (tofDeviceUnits ⟨ra, rb, da, db⟩) (tofDegen ⟨ra, rb, da, db⟩))) := rfl

/-- Settles O16: the unit's output is the pair that the rule of the quotient describes. -/
theorem tofIsRoundedQuotient : Obligations.TofIsRoundedQuotient := by
  unfold Obligations.TofIsRoundedQuotient
  intro s ra rb da db
  exact ⟨_, _, exec_unitTofDeviceUnits ra rb da db s, quotientRule_tofDeviceUnits ⟨ra, rb, da, db⟩⟩

/-- Settles O17: the bound on the magnitude of the quotient, and the two inputs of R215. -/
theorem tofRange : Obligations.TofRange := by
  unfold Obligations.TofRange
  refine ⟨fun v => ?range, by decide, by decide⟩
  case range =>
    have hbound := natAbs_tofInt_le v
    rw [tofDeviceUnits_toInt]
    omega

/-- A numerator that is a multiple of the denominator is divided without rounding; a denominator of 0 gives 0. -/
theorem tofInt_eq_of_num_eq_mul {v : Intervals} {t : Int} (hnum : rangingNum v = t * rangingDen v)
    (hzero : rangingDen v = 0 → t = 0) : tofInt v = t := by
  unfold tofInt
  split
  · next hden => exact (hzero hden).symm
  · next hden => rw [hnum, Int.mul_tdiv_cancel t hden]

theorem rangingNum_eq_zero {v : Intervals} (h : v.ra.toNat * v.rb.toNat = v.da.toNat * v.db.toNat) :
    rangingNum v = 0 :=
  Int.sub_eq_zero.2 (by exact_mod_cast h)

/-- R220: the two round trips exceed the two delays by `2t` each, so `num = 2t (Da + Db) + 4t^2 = t * den`. -/
theorem rangingNum_eq_mul_rangingDen {v : Intervals} {t : Nat} (hra : v.ra.toNat = v.db.toNat + 2 * t)
    (hrb : v.rb.toNat = v.da.toNat + 2 * t) : rangingNum v = t * rangingDen v := by
  rw [rangingNum, rangingDen, hra, hrb]
  push_cast
  ring

theorem rangingDen_ne_zero {v : Intervals}
    (h : v.ra.toNat + v.rb.toNat + v.da.toNat + v.db.toNat ≠ 0) : rangingDen v ≠ 0 := by
  unfold rangingDen
  omega

/-- Settles O18: the numerator is 0, so the quotient is 0 whatever the denominator. -/
theorem cancellationLaw : Obligations.CancellationLaw := by
  unfold Obligations.CancellationLaw
  intro v h
  have htof : tofInt v = 0 :=
    tofInt_eq_of_num_eq_mul ((rangingNum_eq_zero h).trans (Int.zero_mul _).symm) (fun _ => rfl)
  rw [tofDeviceUnits, htof]
  rfl

/-- Settles O19: the numerator is `t` times the denominator. -/
theorem idealClockLaw : Obligations.IdealClockLaw := by
  unfold Obligations.IdealClockLaw
  intro v t hra hrb hsum
  have hden := rangingDen_ne_zero hsum
  refine ⟨?_, decide_eq_false hden⟩
  rw [tofDeviceUnits_toInt]
  exact tofInt_eq_of_num_eq_mul (rangingNum_eq_mul_rangingDen hra hrb) (absurd · hden)

/-! ### Time of flight and distance (R216, R217) -/

theorem exec_unitTimeOfFlight (tof : U64) (s : State) :
    exec (.unitTimeOfFlight tof) s = .next (s.setUnitOut (.rational (timeOfFlight s.params tof))) := rfl

theorem exec_unitDistance (tof : U64) (s : State) :
    exec (.unitDistance tof) s = .next (s.setUnitOut (.rational (distance s.params tof))) := rfl

/-- The distance of one device time unit, in metres. -/
def metresPerUnit (P : Params) : Rat := P.dtuSeconds.val * P.speedOfLight.val

theorem metresPerUnit_pos (P : Params) : 0 < metresPerUnit P :=
  mul_pos P.dtuSeconds.property P.speedOfLight.property

theorem distance_eq_mul (P : Params) (tof : U64) :
    distance P tof = (tof.toInt : Rat) * metresPerUnit P :=
  mul_assoc _ _ _

/-- R217: the distance has the sign of `TOF_DTU`. -/
theorem distance_neg_iff (P : Params) (tof : U64) : distance P tof < 0 ↔ tof.toInt < 0 := by
  have hsign := mul_lt_mul_iff_left₀ (b := (tof.toInt : Rat)) (c := 0) (metresPerUnit_pos P)
  rw [distance_eq_mul, ← Int.cast_lt_zero (R := Rat), ← hsign, zero_mul]

theorem distance_eq_zero_iff (P : Params) (tof : U64) : distance P tof = 0 ↔ tof.toInt = 0 := by
  rw [distance_eq_mul, mul_eq_zero_iff_right (metresPerUnit_pos P).ne', Int.cast_eq_zero]

/-- Settles O20: both products are exact, and the distance of one unit is positive. -/
theorem timeAndDistance : Obligations.TimeAndDistance := by
  unfold Obligations.TimeAndDistance
  intro s tof
  refine ⟨s.params.dtuSeconds.property, s.params.speedOfLight.property, ?_⟩
  exact ⟨_, _, exec_unitTimeOfFlight tof s, exec_unitDistance tof s, rfl, rfl,
    distance_neg_iff s.params tof, distance_eq_zero_iff s.params tof⟩

end Sys2Proof.Machine
end

section
/-! Timestamp arithmetic as arithmetic on numbers (44_timestamp.md R231-R236): the value of each width change, the
elapsed time across a wrap of the counter, and the delayed send time. Settles O11, O12 and O13. -/

namespace Sys2Proof.Machine

open Sys2Proof

/-! ### Widths (R231, R232, R233) -/

/-- A byte shifted up within the word is multiplied by its place. -/
theorem shiftedByte_toNat (b : Byte) {k : Nat} (hk : k ≤ 56) : (b.setWidth 64 <<< k).toNat = b.toNat <<< k := by
  have hfit : b.toNat * 2 ^ k < 2 ^ 8 * 2 ^ 56 :=
    Nat.mul_lt_mul_of_lt_of_le b.isLt (Nat.pow_le_pow_right (by decide) hk) (by decide)
  rw [BitVec.toNat_shiftLeft, BitVec.toNat_setWidth_of_le (by decide), Nat.shiftLeft_eq]
  exact Nat.mod_eq_of_lt hfit

/-- A byte or-ed in above a value's bits adds its place value. -/
theorem toNat_or_shiftedByte {x : U64} {n k : Nat} (hx : x.toNat = n) (hn : n < 2 ^ k) (b : Byte) (hk : k ≤ 56) :
    (x ||| b.setWidth 64 <<< k).toNat = n + b.toNat * 2 ^ k := by
  rw [BitVec.toNat_or, shiftedByte_toNat b hk, hx, Nat.or_comm, ← Nat.shiftLeft_add_eq_or_of_lt hn,
    Nat.shiftLeft_eq, Nat.add_comm]

/-- R231: the five bytes are or-ed in one above the other. -/
theorem widen40To64_toNat (b : TsBytes) :
    (widen40To64 b).toNat = b.b0.toNat + b.b1.toNat * 2 ^ 8 + b.b2.toNat * 2 ^ 16 + b.b3.toNat * 2 ^ 24 +
      b.b4.toNat * 2 ^ 32 := by
  have l0 := b.b0.isLt
  have l1 := b.b1.isLt
  have l2 := b.b2.isLt
  have l3 := b.b3.isLt
  have h0 : (b.b0.setWidth 64).toNat = b.b0.toNat := BitVec.toNat_setWidth_of_le (by decide)
  have h1 := toNat_or_shiftedByte (k := 8) h0 (by omega) b.b1 (by decide)
  have h2 := toNat_or_shiftedByte (k := 16) h1 (by omega) b.b2 (by decide)
  have h3 := toNat_or_shiftedByte (k := 24) h2 (by omega) b.b3 (by decide)
  exact toNat_or_shiftedByte (k := 32) h3 (by omega) b.b4 (by decide)

theorem narrowTo32_toNat (t : U64) : (narrowTo32 t).toNat = t.toNat % 2 ^ 32 := by
  rw [narrowTo32_eq_setWidth, BitVec.toNat_setWidth]

theorem exec_unitWiden40To64 (b : TsBytes) (s : State) :
    exec (.unitWiden40To64 b) s = .next (s.setUnitOut (.word64 (widen40To64 b))) := rfl

theorem exec_unitNarrowTo32 (t : U64) (s : State) :
    exec (.unitNarrowTo32 t) s = .next (s.setUnitOut (.word32 (narrowTo32 t))) := rfl

theorem exec_unitSub32 (x y : U32) (s : State) :
    exec (.unitSub32 x y) s = .next (s.setUnitOut (.word32 (sub32 x y))) := rfl

/-- Settles O11: the three units write their function's word, whose value is the number of its rule. -/
theorem timestampWidths : Obligations.TimestampWidths := by
  unfold Obligations.TimestampWidths
  intro s b t x y
  exact ⟨⟨_, exec_unitWiden40To64 b s, widen40To64_toNat b⟩, ⟨_, exec_unitNarrowTo32 t s, narrowTo32_toNat t⟩,
    ⟨_, exec_unitSub32 x y s, sub32_toNat x y⟩⟩

/-! ### The wrap of the counter (R234) -/

/-- R234: 2^32 divides the counter's modulus, so narrowing first and reducing modulo 2^40 first agree modulo 2^32. -/
theorem sub32_narrowTo32_toNat {t1 t2 : U64} (h1 : t1.toNat < 2 ^ 40) :
    (sub32 (narrowTo32 t2) (narrowTo32 t1)).toNat = (t2.toNat + 2 ^ 40 - t1.toNat) % 2 ^ 40 % 2 ^ 32 := by
  have hsub := sub32_toNat (narrowTo32 t2) (narrowTo32 t1)
  rw [narrowTo32_toNat, narrowTo32_toNat] at hsub
  rw [Nat.mod_mod_of_dvd _ (Nat.pow_dvd_pow 2 (by decide))]
  omega

/-- Settles O13: an elapsed time below 2^32 is its own residue. -/
theorem wrapAroundSafe : Obligations.WrapAroundSafe := by
  unfold Obligations.WrapAroundSafe
  intro t1 t2 h1 _ d
  have hd : (sub32 (narrowTo32 t2) (narrowTo32 t1)).toNat = d % 2 ^ 32 := sub32_narrowTo32_toNat h1
  exact ⟨hd, fun hlt => hd.trans (Nat.mod_eq_of_lt hlt)⟩

/-! ### The delayed send time (R235, R236) -/

/-- The mask of R235 clears bit 0: it is a shift down by one and up again. -/
theorem toNat_clearBit0 (x : U32) : (x &&& 0xFFFFFFFE#32).toNat = x.toNat / 2 * 2 := by
  have hmask : x &&& 0xFFFFFFFE#32 = x >>> 1 <<< 1 := (BitVec.shiftLeft_ushiftRight (x := x) (n := 1)).symm
  have hx := x.isLt
  rw [hmask, BitVec.toNat_shiftLeft, BitVec.toNat_ushiftRight, Nat.shiftLeft_eq, Nat.shiftRight_eq_div_pow]
  omega

theorem alignDelayedTx_toNat (t : U64) : (alignDelayedTx t).toNat = t.toNat / 2 ^ 8 % 2 ^ 32 / 2 * 2 := by
  rw [alignDelayedTx, toNat_clearBit0, BitVec.extractLsb'_toNat, Nat.shiftRight_eq_div_pow]

/-- R236: the sum fits in 64 bits, so it is not reduced at all. -/
theorem predictFinalTx_toNat (a : U32) (ant : U16) :
    (predictFinalTx a ant).toNat = a.toNat * 2 ^ 8 + ant.toNat := by
  have ha := a.isLt
  have hant := ant.isLt
  rw [predictFinalTx, BitVec.toNat_add, BitVec.toNat_shiftLeft, BitVec.toNat_setWidth_of_le (by decide),
    BitVec.toNat_setWidth_of_le (by decide), Nat.shiftLeft_eq]
  omega

theorem exec_unitAlignDelayedTx (t : U64) (s : State) :
    exec (.unitAlignDelayedTx t) s = .next (s.setUnitOut (.word32 (alignDelayedTx t))) := rfl

theorem exec_unitPredictFinalTx (a : U32) (ant : U16) (s : State) :
    exec (.unitPredictFinalTx a ant) s = .next (s.setUnitOut (.word64 (predictFinalTx a ant))) := rfl

/-- Settles O12: both units write their function's word, whose value is the number of its rule. -/
theorem alignAndPredict : Obligations.AlignAndPredict := by
  unfold Obligations.AlignAndPredict
  intro s t a ant
  exact ⟨⟨_, exec_unitAlignDelayedTx t s, alignDelayedTx_toNat t⟩,
    ⟨_, exec_unitPredictFinalTx a ant s, predictFinalTx_toNat a ant⟩⟩

end Sys2Proof.Machine
end

section
/-! The driver interface (45_driver_interface.md R251-R258, R264): the commands and the result record on the block's
output, and the events as rows. Settles O37, O39, O40, O45 and O46. -/

namespace Sys2Proof.Machine

open Sys2Proof

/-! ### Commands and the result record (R251-R257, R264) -/

/-- The bytes a command carries behind its word: the frame of a TX command (R91). -/
def commandData : Command → List Byte
  | .tx _ _ _ _ data => data
  | .armRx _ | .resetRx | .clearStatus | .wait _ => []

/-- A command whose frame LEN can carry is emitted. -/
theorem exec_command {c : Command} (hlen : (commandData c).length ≤ maxLen) (s : State) :
    exec c.toInstr s = .next (s.emit c) := by
  cases c with
  | tx mode rxa rxto dly data => exact if_pos hlen
  | armRx rxto => rfl
  | resetRx => rfl
  | clearStatus => rfl
  | wait dsel => rfl

/-- A frame that LEN cannot carry is rejected (I19; log 21). -/
theorem exec_cmdTx_too_long {data : List Byte} (hlen : maxLen < data.length) (mode : TxMode) (rxa : Bool)
    (rxto : RxTimeout) (dly : U32) (s : State) : exec (.cmdTx mode rxa rxto dly data) s = .next s :=
  if_neg (Nat.not_le.2 hlen)

theorem exec_result (r : ResultRecord) (s : State) :
    exec (.result r.degen r.tof r.ra r.rb r.da r.db) s = .next (s.putResult r) := rfl

/-- Settles O45: the two sides of LEN's bound; what the driver takes on is `Env.accept` on the TX command. -/
theorem txCommand : Obligations.TxCommand := by
  unfold Obligations.TxCommand
  intro s mode rxa rxto dly data
  refine ⟨fun hlen => ?_, fun hlen => ?_⟩
  · exact exec_command (c := .tx mode rxa rxto dly data) hlen s
  · exact exec_cmdTx_too_long hlen mode rxa rxto dly s

/-- Settles O46: each of the four commands is emitted, and `Env.accept` on it is the field its clause names. -/
theorem commandsAndResult : Obligations.CommandsAndResult := by
  unfold Obligations.CommandsAndResult
  intro s rxto dsel r
  have hlen : ([] : List Byte).length ≤ maxLen := Nat.zero_le _
  refine ⟨?_, ?_, ?_, ?_, ?_⟩
  · exact exec_command (c := .armRx rxto) hlen s
  · exact exec_command (c := .resetRx) hlen s
  · exact exec_command (c := .clearStatus) hlen s
  · exact exec_command (c := .wait dsel) hlen s
  · exact exec_result r s

/-! ### An event as a row (R95, R260; log 13) -/

/-- A row that is the event step on its event is, at a pair whose action has a rule and in a block that is not stuck,
that rule. -/
theorem exec_row_of_rule {ev : Event} {row i : Instr} {f : Event → State → Res} {s : State} {ss : BitVec 6}
    (hrow : exec row s = eventStep ev s) (hs : s.stuck = false) (hss : s.selector = ss)
    (hi : decodeSelector ss = .ok i) (hf : eventRule i = some f) : exec row s = f ev s :=
  hrow.trans (eventStep_of_eventRule hf hs (hss ▸ hi) ev)

/-- EV_TX_DONE at a pair with a rule. -/
theorem exec_evTxDone_of_rule {s : State} {ss : BitVec 6} {i : Instr} {f : Event → State → Res} (ts : TsBytes)
    (hs : s.stuck = false) (hss : s.selector = ss) (hi : decodeSelector ss = .ok i) (hf : eventRule i = some f) :
    exec (.evTxDone ts) s = f (.txDone ts) s :=
  exec_row_of_rule rfl hs hss hi hf

/-- EV_DELAY_DONE at a pair with a rule. -/
theorem exec_evDelayDone_of_rule {s : State} {ss : BitVec 6} {i : Instr} {f : Event → State → Res}
    (hs : s.stuck = false) (hss : s.selector = ss) (hi : decodeSelector ss = .ok i) (hf : eventRule i = some f) :
    exec .evDelayDone s = f .delayDone s :=
  exec_row_of_rule rfl hs hss hi hf

/-- Settles O37: in each of the four pairs the row is the pair's rule, whose answer on TX_DONE is one state. -/
theorem txDoneEvent : Obligations.TxDoneEvent := by
  unfold Obligations.TxDoneEvent
  intro s ts hs
  refine ⟨fun hss => ?_, fun hss => ?_, fun hss => ?_, fun hss => ?_⟩
  · exact ⟨_, exec_evTxDone_of_rule (f := onISendPollAwait) ts hs hss rfl rfl, rfl, rfl⟩
  · exact ⟨_, exec_evTxDone_of_rule (f := onISendFinalAwait) ts hs hss rfl rfl, rfl, rfl⟩
  · exact ⟨_, exec_evTxDone_of_rule (f := onISendFinalRepeatAwait) ts hs hss rfl rfl, rfl, rfl⟩
  · exact ⟨_, exec_evTxDone_of_rule (f := onRSendResponseAwait) ts hs hss rfl rfl, rfl, rfl⟩

/-- Settles O40: the end of the idle delay is a move, and the end of the pause sends the repeated Final from the
state with the wait answered. -/
theorem delayDoneEvent : Obligations.DelayDoneEvent := by
  unfold Obligations.DelayDoneEvent
  intro s hs
  refine ⟨fun hss => ?_, fun hss hw hv => ?_⟩
  · exact ⟨_, exec_evDelayDone_of_rule (f := onIIdleAwait) hs hss rfl rfl, rfl, rfl⟩
  · have hsend := (exec_evDelayDone_of_rule hs hss rfl rfl).trans
      (onISendFinalRepeatPause_valid (State.validAll_of_and hv rfl))
    exact sends_of_sendFrame (s1 := s.answered .delayDone) hw rfl (encodeFinal_length _ _ _ _ _) (by decide) hsend

/-! ### EV_RX_GOOD (R258) -/

/-- The four pairs that wait for the RX class (R33). -/
theorem waitsFor_eq_rx {ss : BitVec 6} (h : waitsFor ss = some .rx) :
    ss = 0x05#6 ∨ ss = 0x21#6 ∨ ss = 0x29#6 ∨ ss = 0x2D#6 := by
  revert ss
  decide

/-- R184, R186: the pairs that count every event. -/
theorem countedAt_eq_incSeq {s : State} (h : s.selector = 0x29#6 ∨ s.selector = 0x2D#6) : countedAt s = s.incSeq :=
  if_pos h

theorem countedAt_eq_self {s : State} {ss : BitVec 6} (hss : s.selector = ss) (h : ¬(ss = 0x29#6 ∨ ss = 0x2D#6)) :
    countedAt s = s :=
  if_neg (hss ▸ h)

/-- A frame that LEN cannot carry is rejected (I19; log 21). -/
theorem exec_evRxGood_too_long {f : List Byte} (hlen : maxLen < f.length) (ts : TsBytes) (s : State) :
    exec (.evRxGood ts f) s = .next s :=
  if_neg (Nat.not_le.2 hlen)

/-- EV_RX_GOOD, with a frame that LEN can carry, at a pair with a rule. -/
theorem exec_evRxGood_of_rule {s : State} {ss : BitVec 6} {i : Instr} {rule : Event → State → Res} {f : List Byte}
    (ts : TsBytes) (hlen : f.length ≤ maxLen) (hs : s.stuck = false) (hss : s.selector = ss)
    (hi : decodeSelector ss = .ok i) (hr : eventRule i = some rule) :
    exec (.evRxGood ts f) s = rule (.rxGood ts f) s :=
  exec_row_of_rule (if_pos hlen) hs hss hi hr

/-- A row that takes the failure path in a pair that does not count the event. -/
theorem answers_row_failed {row : Instr} {s : State} {ev : Event} {ss : BitVec 6} {k : FailKind} {st : BitVec 4}
    (hss : s.selector = ss) (hc : ¬(ss = 0x29#6 ∨ ss = 0x2D#6))
    (h : exec row s = .next ((s.answered ev).fail k st)) :
    Answers row s s.events (failedArch (countedAt s) ((failCode k).setWidth 8) st) := by
  rw [countedAt_eq_self hss hc]
  exact ⟨_, h, rfl, State.fail_arch _ k st⟩

/-- A row that takes the failure path in a pair that counts the event. -/
theorem answers_row_counted_failed {row : Instr} {s : State} {ev : Event} {k : FailKind} {st : BitVec 4}
    (hc : s.selector = 0x29#6 ∨ s.selector = 0x2D#6)
    (h : exec row s = .next ((s.answered ev).incSeq.fail k st)) :
    Answers row s s.events (failedArch (countedAt s) ((failCode k).setWidth 8) st) := by
  rw [countedAt_eq_incSeq hc]
  exact ⟨_, h, rfl, State.fail_arch _ k st⟩

/-- R186, R286: in R_AWAIT_FINAL_REPEAT a frame of another type and one that does not decode are one mismatch. -/
theorem evRxGood_finalRepeat_mismatch {s : State} {f : List Byte} (ts : TsBytes) (hlen : f.length ≤ maxLen)
    (hs : s.stuck = false) (hss : s.selector = 0x2D#6)
    (h : matchesType s.params f .final = false ∨ decodeFinalTimestamps f = none) :
    Answers (.evRxGood ts f) s s.events (failedArch (countedAt s) 4#8 0x8#4) :=
  answers_row_counted_failed (.inr hss)
    ((exec_evRxGood_of_rule ts hlen hs hss rfl rfl).trans (onRAwaitFinalRepeatAwait_mismatch h))

/-- R285: in every pair that waits for the RX class a frame of another type takes the failure path. -/
theorem evRxGood_mismatch {s : State} {f : List Byte} (ts : TsBytes) (hlen : f.length ≤ maxLen)
    (hs : s.stuck = false) (hw : waitsFor s.selector = some .rx)
    (hm : matchesType s.params f (expectedType s.selector) = false) :
    Answers (.evRxGood ts f) s s.events (failedArch (countedAt s) 4#8 (restartState s.selector)) := by
  rcases waitsFor_eq_rx hw with hss | hss | hss | hss <;> rw [hss] at hm ⊢
  · have hrule := exec_evRxGood_of_rule (rule := onIAwaitResponseAwait) ts hlen hs hss rfl rfl
    exact answers_row_failed hss (by decide) (hrule.trans (onIAwaitResponseAwait_mismatch hm))
  · have hrule := exec_evRxGood_of_rule (rule := onRAwaitPollAwait) ts hlen hs hss rfl rfl
    exact answers_row_failed hss (by decide) (hrule.trans (if_neg (ne_true_of_eq_false hm)))
  · have hrule := exec_evRxGood_of_rule (rule := onRAwaitFinalAwait) ts hlen hs hss rfl rfl
    exact answers_row_counted_failed (.inl hss) (hrule.trans (if_neg (ne_true_of_eq_false hm)))
  · exact evRxGood_finalRepeat_mismatch ts hlen hs hss (.inl hm)

/-- Settles O39: LEN's bound, the mismatches, and in each pair the frame of its type, captured by the pair's rule. -/
theorem rxGoodEvent : Obligations.RxGoodEvent := by
  unfold Obligations.RxGoodEvent
  intro s ts f
  refine ⟨fun hlen => exec_evRxGood_too_long hlen ts s, fun hlen hs => ⟨?_, ?_, ?_, ?_, ?_, ?_⟩⟩
  · exact evRxGood_mismatch ts hlen hs
  · intro hss hm
    have hrule := exec_evRxGood_of_rule (rule := onIAwaitResponseAwait) ts hlen hs hss rfl rfl
    exact ⟨_, hrule.trans (onIAwaitResponseAwait_accepts hm), rfl, rfl⟩
  · intro hss hm
    have hrule := exec_evRxGood_of_rule (rule := onRAwaitPollAwait) ts hlen hs hss rfl rfl
    exact ⟨_, hrule.trans (if_pos hm), rfl, rfl⟩
  · intro hss hm
    have hrule := exec_evRxGood_of_rule (rule := onRAwaitFinalAwait) ts hlen hs hss rfl rfl
    exact ⟨_, hrule.trans (if_pos hm), rfl, rfl⟩
  · intro hss _ hd
    exact evRxGood_finalRepeat_mismatch ts hlen hs hss (.inr hd)
  · intro a b c hss hm hd
    have hrule := exec_evRxGood_of_rule (rule := onRAwaitFinalRepeatAwait) ts hlen hs hss rfl rfl
    refine ⟨_, hrule.trans (onRAwaitFinalRepeatAwait_accepts hm hd), rfl, ?_⟩
    rw [← withValid_repeatedFinal]
    rfl

end Sys2Proof.Machine
end

section
/-! The unexpected event and the stuck block (60_exceptions.md R289-R291). Settles O41 and O42, then O43. -/

namespace Sys2Proof.Machine

open Sys2Proof

/-! ### The unexpected event (R289) -/

/-- R289 of the rules: every other outcome of a rule has the class its pair waits for. -/
theorem eventRule_unexpected {ss : BitVec 6} {i : Instr} {f : Event → State → Res} {ev : Event}
    (hi : decodeSelector ss = .ok i) (hf : eventRule i = some f)
    (hc : ∀ cls, waitsFor ss = some cls → eventClass ev ≠ some cls) (s : State) :
    f ev s = .next s.unexpected := by
  obtain ⟨s', h⟩ := eventRule_goes hf ev s
  cases eventRule_reacts hi hf h with
  | unexpected => exact h
  | failed k hcl hp ht =>
    rcases hp with hw | hw <;> exact absurd (hcl.trans hw) (hc _ hw)
  | pollSent | responseReceived | finalSent | pauseOver | pauseInvalid | repeatSent | idleOver | pollReceived
  | responseSent | finalReceived | repeatReceived => exact absurd rfl (hc _ rfl)

/-- R289 of the event step, at an ISSUE pair too (log 12). -/
theorem eventStep_unexpected {ev : Event} {s : State} (hs : s.stuck = false)
    (hc : ∀ cls, waitsFor s.selector = some cls → eventClass ev ≠ some cls) :
    eventStep ev s = .next s.unexpected := by
  rcases eventStep_cases ev s with ⟨hst, -⟩ | ⟨-, i, hi, ⟨f, hf, h⟩ | ⟨-, h⟩⟩
  · rw [hs] at hst
    cases hst
  · exact h.trans (eventRule_unexpected hi hf hc s)
  · exact h

/-- The action of a pair that waits has a rule. -/
theorem eventRule_of_waitsFor {ss : BitVec 6} {i : Instr} {cls : EventClass} (hi : decodeSelector ss = .ok i)
    (hw : waitsFor ss = some cls) : ∃ f, eventRule i = some f := by
  rw [← Option.isSome_iff_exists, eventRule_isSome_eq_waitsFor hi, hw]
  rfl

/-- Settles O41: the action is its rule on the event taken off the port, and the class is not the rule's. -/
theorem unexpectedEventSetsFlag : Obligations.UnexpectedEventSetsFlag := by
  unfold Obligations.UnexpectedEventSetsFlag
  intro s ev cls i rest hw hc hi ho
  obtain ⟨f, hf⟩ := eventRule_of_waitsFor hi hw
  have hother : ∀ c, waitsFor s.selector = some c → eventClass ev ≠ some c := by
    intro c hwc
    rwa [← hwc, hw]
  exact (exec_offered hf ho).trans (eventRule_unexpected hi hf hother _)

/-! ### An event word as a row, and one of a reserved CODE (R98, R260; log 13, 26) -/

/-- A well-formed event row is the event step on its event. -/
theorem exec_row_of_wf {ev : Event} {i : Instr} (hi : ev.toInstr = .ok i) (hw : i.wf = true) (s : State) :
    exec i s = eventStep ev s := by
  cases ev with
  | rxGood ts data =>
    cases hi
    exact if_pos (of_decide_eq_true hw)
  | reserved c => cases hi
  | txDone | txErr | rxTimeout | rxErr | delayDone =>
    cases hi
    rfl

/-- An event word of a reserved CODE on the probe port is taken off it and offered to the event step. -/
theorem step_probe_reserved {s : State} {bs rest : List Byte} {code : BitVec 4}
    (hp : s.probe = some ⟨.event, bs⟩) (hd : decodeEvent bs = .ok (.reserved code, rest)) :
    step s = eventStep (.reserved code) { s with probe := none } := by
  apply step_of_fetch_answer
  rw [fetch_of_probe hp]
  simp [fetchProbe, hd, Event.toInstr]

/-- Settles O42: a row and a word of a reserved CODE are the event step on an event that nothing waits for. -/
theorem unexpectedEventRow : Obligations.UnexpectedEventRow := by
  unfold Obligations.UnexpectedEventRow
  intro s ev hs
  refine ⟨fun i hc hi hw => ?_, fun code bs rest hp hd => ?_⟩
  · exact (exec_row_of_wf hi hw s).trans (eventStep_unexpected hs fun cls hcls => hcls ▸ hc)
  · have hs' : State.stuck { s with probe := none } = false := hs
    exact (step_probe_reserved hp hd).trans (eventStep_unexpected hs' nofun)

/-! ### The stuck block (R290, R291; log 14) -/

theorem faultBit_of_and {st : BitVec 8} (h : st &&& 0x10#8 = 0x10#8) : faultBit st = true := by
  have hbit : (st &&& 0x10#8).getLsbD 4 = true := by
    rw [h]
    rfl
  rw [BitVec.getLsbD_and, Bool.and_eq_true] at hbit
  exact hbit.1

/-- The ways to be stuck: no row of R90, a pair of the other role, FAULT set. -/
theorem State.stuck_of_illegal {s : State} (h : (∀ i, decodeSelector s.selector ≠ .ok i) ∨
    s.state.getLsbD 3 ≠ s.cfgRole.getLsbD 0 ∨ s.status &&& 0x10#8 = 0x10#8) : s.stuck = true := by
  by_contra hns
  obtain ⟨hfault, ⟨i, hi⟩, hrole⟩ := State.stuck_eq_false.1 (Bool.eq_false_of_not_eq_true hns)
  rcases h with h | h | h
  · exact h i hi
  · exact h hrole
  · rw [faultBit_of_and h] at hfault
    cases hfault

theorem State.stuck_of_fault {s : State} (h : s.status &&& 0x10#8 = 0x10#8) : s.stuck = true :=
  State.stuck_of_illegal (.inr (.inr h))

theorem State.stuckStep_issue {s : State} (h : s.phase = 0#2 ∨ s.phase = 3#2) : s.stuckStep = s.setFault := by
  have hph : ¬(s.phase = phAwait ∨ s.phase = phPause) := by
    rcases h with h | h <;> rw [h] <;> decide
  exact if_neg hph

theorem State.stuckStep_offered {s : State} {ev : Event} {rest : List Byte} (hph : s.phase = 1#2 ∨ s.phase = 2#2)
    (ho : Offered s ev rest) : s.stuckStep = State.setFault { s with events := rest } := by
  have htake : s.takeEvent = some (ev, { s with events := rest }) := State.takeEvent_eq_some.2 ⟨rest, ho, rfl⟩
  simp only [State.stuckStep, htake]
  exact if_pos hph

theorem State.stuckStep_waits {s : State} {e : DecodeError} (hph : s.phase = 1#2 ∨ s.phase = 2#2)
    (he : decodeEvent s.events = .error e) : s.stuckStep = s := by
  have htake : s.takeEvent = none := by simp [State.takeEvent, he]
  simp only [State.stuckStep, htake]
  exact if_pos hph

/-- An event row in a stuck block (log 13). -/
theorem eventStep_stuck {s : State} (hs : s.stuck = true) (ev : Event) : eventStep ev s = .next s.setFault :=
  if_pos hs

/-- Settles O43: the stuck block's own step by phase, and the event step of a stuck block. -/
theorem illegalPairIsStuck : Obligations.IllegalPairIsStuck := by
  unfold Obligations.IllegalPairIsStuck
  intro s
  refine ⟨State.stuck_of_illegal, fun hs hp => ⟨fun hph => ?_, fun ev rest hph ho => ?_, fun e hph he => ?_⟩,
    fun hs ev i hi hw => ?_⟩
  · rw [step_stuck hp hs, State.stuckStep_issue hph]
    rfl
  · rw [step_stuck hp hs, State.stuckStep_offered hph ho]
    rfl
  · rw [step_stuck hp hs, State.stuckStep_waits hph he]
  · rw [exec_row_of_wf hi hw, eventStep_stuck hs]
    rfl

end Sys2Proof.Machine
end

section
/-! The failure path as event rows, and the read of an invalid register (60_exceptions.md R281, R283, R291). Settles
O38 and O44. -/

namespace Sys2Proof.Machine

open Sys2Proof

/-! ### The failure path (R281, R283, R284) -/

/-- The four pairs that wait for the TX class (R33). -/
theorem waitsFor_eq_tx {ss : BitVec 6} (h : waitsFor ss = some .tx) :
    ss = 0x01#6 ∨ ss = 0x09#6 ∨ ss = 0x0D#6 ∨ ss = 0x25#6 := by
  revert ss
  decide

/-- The rule of a pair that waits for the TX class, on TX_ERR (R151, R154, R157, R183). -/
theorem eventRule_txErr {ss : BitVec 6} {i : Instr} {f : Event → State → Res} (hi : decodeSelector ss = .ok i)
    (hf : eventRule i = some f) (hw : waitsFor ss = some .tx) (s : State) :
    f .txErr s = .next ((s.answered .txErr).fail .transmitFailure (restartState ss)) := by
  rcases waitsFor_eq_tx hw with rfl | rfl | rfl | rfl <;> cases hi <;> cases hf <;> rfl

/-- The failures of the RX class that carry no frame, with their kinds (R280). -/
inductive RxFailure : Event → FailKind → Prop where
  | timeout : RxFailure .rxTimeout .receiveTimeout
  | error : RxFailure .rxErr .receiveError

/-- The rule of a pair that waits for the RX class, on a failure without a frame (R152, R181, R184, R186). Answering
the event and counting it touch different fields, so their order is no matter. -/
theorem eventRule_rxFailure {s : State} {i : Instr} {f : Event → State → Res} {ev : Event} {k : FailKind}
    (hk : RxFailure ev k) (hi : decodeSelector s.selector = .ok i) (hf : eventRule i = some f)
    (hw : waitsFor s.selector = some .rx) :
    f ev s = .next (((countedAt s).answered ev).fail k (restartState s.selector)) := by
  rcases waitsFor_eq_rx hw with hss | hss | hss | hss <;> rw [hss] at hi ⊢ <;> cases hi <;> cases hf
  · rw [countedAt_eq_self hss (by decide)]
    cases hk <;> rfl
  · rw [countedAt_eq_self hss (by decide)]
    cases hk <;> rfl
  · rw [countedAt_eq_incSeq (.inl hss)]
    cases hk <;> rfl
  · rw [countedAt_eq_incSeq (.inr hss)]
    cases hk <;> rfl

@[simp] theorem countedAt_events (s : State) : (countedAt s).events = s.events := by
  unfold countedAt
  split <;> rfl

/-- The action a block that is not stuck waits in, with its rule. -/
theorem exists_eventRule {s : State} {cls : EventClass} (hs : s.stuck = false)
    (hw : waitsFor s.selector = some cls) :
    ∃ i f, decodeSelector s.selector = .ok i ∧ eventRule i = some f := by
  obtain ⟨-, ⟨i, hi⟩, -⟩ := State.stuck_eq_false.1 hs
  obtain ⟨f, hf⟩ := eventRule_of_waitsFor hi hw
  exact ⟨i, f, hi, hf⟩

theorem answers_evTxErr {s : State} (hs : s.stuck = false) (hw : waitsFor s.selector = some .tx) :
    Answers .evTxErr s s.events (failedArch s 1#8 (restartState s.selector)) := by
  obtain ⟨i, f, hi, hf⟩ := exists_eventRule hs hw
  have hexec : exec .evTxErr s = f .txErr s := exec_row_of_rule rfl hs rfl hi hf
  exact ⟨_, hexec.trans (eventRule_txErr hi hf hw s), rfl, State.fail_arch _ .transmitFailure _⟩

theorem answers_rxFailure {s : State} {row : Instr} {ev : Event} {k : FailKind} (hk : RxFailure ev k)
    (hrow : exec row s = eventStep ev s) (hs : s.stuck = false) (hw : waitsFor s.selector = some .rx) :
    Answers row s s.events (failedArch (countedAt s) ((failCode k).setWidth 8) (restartState s.selector)) := by
  obtain ⟨i, f, hi, hf⟩ := exists_eventRule hs hw
  have hexec : exec row s = f ev s := exec_row_of_rule hrow hs rfl hi hf
  exact ⟨_, hexec.trans (eventRule_rxFailure hk hi hf hw), by simp, State.fail_arch _ k _⟩

/-- Settles O38: each row is the rule of the pair it finds, and the rule takes the failure path. -/
theorem failureEvents : Obligations.FailureEvents := by
  unfold Obligations.FailureEvents
  intro s hs
  refine ⟨answers_evTxErr hs, fun hw => ⟨?_, ?_⟩⟩
  · exact answers_rxFailure .timeout rfl hs hw
  · exact answers_rxFailure .error rfl hs hw

/-! ### The read of an invalid register (R38, R291) -/

/-- A mask of VALID is set where each of its bits is. -/
theorem valid_and_of_bits {v m : BitVec 8} {ks : List Nat} (hm : ∀ k < 8, m.getLsbD k = true → k ∈ ks)
    (hv : ∀ k ∈ ks, v.getLsbD k = true) : v &&& m = m := by
  refine BitVec.eq_of_getLsbD_eq fun k hk => ?_
  rw [BitVec.getLsbD_and]
  cases hb : m.getLsbD k with
  | false => exact Bool.and_false _
  | true => rw [hv k (hm k hk hb), Bool.and_true]

/-- Registers that do not have every bit of the mask are not all valid. -/
theorem State.not_validAll_of_and {s : State} {m : BitVec 8} {rs : List TReg} (h : s.valid &&& m ≠ m)
    (hm : ∀ k < 8, m.getLsbD k = true → k ∈ rs.map tIndex) : ¬s.validAll rs = true := by
  intro hv
  refine h (valid_and_of_bits hm ?_)
  simpa [State.validAll, State.validT] using hv

/-- What R187 reads is not valid without every bit of its mask. -/
theorem compute_registers_invalid {s : State} {src : FinalRxSource}
    (h : s.valid &&& (if src = .second then 0xD8#8 else 0xB8#8) ≠ if src = .second then 0xD8#8 else 0xB8#8) :
    ¬(s.validE && s.validAll [.t3, .t4, finalRxReg src]) = true := by
  rw [Bool.and_eq_true]
  rintro ⟨he, hv⟩
  have hbits : ∀ k ∈ embeddedIndex :: [.t3, .t4, finalRxReg src].map tIndex, s.valid.getLsbD k = true := by
    simpa [State.validE, State.validAll, State.validT] using And.intro he hv
  refine h (valid_and_of_bits ?_ hbits)
  cases src <;> decide

/-- A step that is abandoned: FAULT set, with the event it consumed off the port. -/
theorem answers_setFault {i : Instr} {s : State} {rest : List Byte}
    (h : exec i s = .next (State.setFault { s with events := rest })) :
    Answers i s rest { s.arch with status := s.status ||| 0x10#8 } :=
  ⟨_, h, rfl, rfl⟩

/-- R291 at R156. -/
theorem onISendFinalRepeatPause_invalid {s : State} (hv : s.valid &&& 0x07#8 ≠ 0x07#8) :
    onISendFinalRepeatPause .delayDone s = .next s.setFault :=
  if_neg (State.not_validAll_of_and hv (by decide))

/-- FAULT, once set, stays as it is. -/
theorem State.setFault_of_fault {s : State} (h : s.status &&& 0x10#8 = 0x10#8) : s.setFault = s := by
  have hst : withFault s.status = s.status := by
    rw [withFault, ← h]
    ext k
    simpa using fun hk _ => hk
  unfold State.setFault
  rw [hst]

/-- Settles O44: without its bits a guard of R291 fails, and a block with FAULT set takes the stuck block's step. -/
theorem invalidReadFaults : Obligations.InvalidReadFaults := by
  unfold Obligations.InvalidReadFaults
  intro s
  refine ⟨fun hv => ?_, fun rest ho hv => ?_, fun hs hss hv => ?_, fun need hneed hv => ?_,
    fun hfault => ⟨?_, fun hp hph => ?_, fun ev rest hp hph ho => ?_⟩⟩
  · exact answers_setFault (if_neg (State.not_validAll_of_and hv (by decide)))
  · exact answers_setFault ((exec_offered rfl ho).trans (onISendFinalRepeatPause_invalid hv))
  · exact answers_setFault ((exec_evDelayDone_of_rule hs hss rfl rfl).trans (onISendFinalRepeatPause_invalid hv))
  · subst hneed
    exact answers_setFault (if_neg (compute_registers_invalid hv))
  · exact State.stuck_of_fault hfault
  · rw [step_stuck hp (State.stuck_of_fault hfault), State.stuckStep_issue (.inl hph), State.setFault_of_fault hfault]
  · rw [step_stuck hp (State.stuck_of_fault hfault), State.stuckStep_offered hph ho]
    exact congrArg _ (State.setFault_of_fault (s := { s with events := rest }) hfault)

end Sys2Proof.Machine
end

section
/-! The delayed send time of R317 in device units: the whole sum of R235, rounded down to a multiple of 512. Settles
O14. -/

namespace Sys2Proof.Machine

open Sys2Proof

/-- R317: dropping bits [7:0] and clearing bit 0 of the rest rounds the sum modulo 2^40 down to a multiple of 512. -/
theorem alignDelayedTx_mul (t : U64) :
    (alignDelayedTx t).toNat * 2 ^ 8 = t.toNat % 2 ^ 40 / 512 * 512 := by
  rw [alignDelayedTx_toNat]
  omega

/-- A 40-bit time plus a 32-bit delay is not reduced modulo 2^64. -/
theorem toNat_add_delay {t1 : U64} (h1 : t1.toNat < 2 ^ 40) (delay : U32) :
    (t1 + delay.setWidth 64).toNat = t1.toNat + delay.toNat := by
  have hdelay := delay.isLt
  rw [BitVec.toNat_add, BitVec.toNat_setWidth_of_le (by decide)]
  omega

/-- R236: the antenna delay carries a prediction to 2^40 only from the last 256 values of `a`. -/
theorem le_of_predictFinalTx_ge {a : U32} {ant : U16} (h : 2 ^ 40 ≤ (predictFinalTx a ant).toNat) :
    0xFFFFFF00 ≤ a.toNat := by
  have hant := ant.isLt
  rw [predictFinalTx_toNat] at h
  omega

/-- Settles O14: the aligned time is the sum rounded down to a multiple of 512. -/
theorem scheduledTimeGranularity : Obligations.ScheduledTimeGranularity := by
  unfold Obligations.ScheduledTimeGranularity
  intro t1 delay ant h1 sum a
  have ha : a.toNat * 2 ^ 8 = sum / 512 * 512 := by
    rw [alignDelayedTx_mul, toNat_add_delay h1]
  refine ⟨?_, ?_, ?_, predictFinalTx_lt a ant, le_of_predictFinalTx_ge⟩ <;> omega

end Sys2Proof.Machine
end

section
/-! A running block comes to rest (70_reset_and_hazards.md R324): an ISSUE action leads to a pair that waits, but for
R_COMPUTE's, which leads to R_AWAIT_POLL.ISSUE, whose own action does. Settles O51. -/

namespace Sys2Proof.Machine

open Sys2Proof

/-- At a pair that waits for nothing the step of a running block is an ISSUE action. -/
theorem step_issues {s s' : State} (hr : Running s) (hw : waitsFor s.selector = none) (h : step s = .next s') :
    Issues s.selector s s' := by
  obtain ⟨hs, hp⟩ := hr
  obtain ⟨-, ⟨i, hi⟩, -⟩ := State.stuck_eq_false.1 hs
  have hrule : eventRule i = none := by
    rw [← Option.not_isSome_iff_eq_none, eventRule_isSome_eq_waitsFor hi, hw]
    decide
  rw [step_selected hp hs hi] at h
  exact exec_issues hi hrule h

theorem not_running_setFault (s : State) : ¬Running s.setFault := by
  intro hr
  have hfault : faultBit s.setFault.status = true := by simp [faultBit, withFault]
  rw [(running_iff.1 hr).1] at hfault
  cases hfault

/-- Where an ISSUE action leads that finds its registers valid (R33). -/
theorem Issues.waits_or_awaitPoll {ss : BitVec 6} {s s' : State} (h : Issues ss s s') (hr : Running s') :
    waitsFor s'.selector ≠ none ∨ s'.selector = 0x20#6 := by
  cases h with
  | finalInvalid | computeInvalid => exact absurd hr (not_running_setFault s)
  | compute =>
    right
    rw [State.goto_selector]
    decide
  | sendPoll | sendFinal | pause | idle | awaitPoll | sendResponse | rearm =>
    left
    rw [State.goto_selector]
    decide

/-- Settles O51: the one ISSUE action that does not lead to a pair that waits leads to R_AWAIT_POLL.ISSUE. -/
theorem settlesInTwoSteps : Obligations.SettlesInTwoSteps := by
  unfold Obligations.SettlesInTwoSteps
  intro s hr hc
  by_cases hw : waitsFor s.selector = none
  · obtain ⟨s1, h1⟩ := stepNeverStops s
    have hissue := step_issues hr hw h1
    obtain ⟨hr1, -⟩ := hissue.running_captured rfl hr hc
    refine .inr ⟨s1, h1, (hissue.waits_or_awaitPoll hr1).imp_right fun hss => ?_⟩
    obtain ⟨h2, -⟩ := step_awaitPollIssue hr1 hss
    refine ⟨_, h2, ?_⟩
    rw [State.awaitingPoll_selector]
    decide
  · exact .inl hw

end Sys2Proof.Machine
end

section
/-! Reset (70_reset_and_hazards.md R310, R313): the block is at its role's first pair, at which nothing is read and
nothing is outstanding, and every register but the configuration and STATE is zero. Settles O53 and O60. -/

namespace Sys2Proof.Machine

open Sys2Proof

/-- R310: the first pair of each role. -/
theorem resetWith_selector (P : Params) :
    (State.resetWith P).selector = if P.role = 0#1 then 0x00#6 else 0x20#6 := by
  have happend : ∀ r : BitVec 1, (if r = 0#1 then 0x0#4 else 0x8#4) ++ 0#2 = if r = 0#1 then 0x00#6 else 0x20#6 := by
    decide
  exact happend P.role

/-- Both first pairs are legal under their role, read no register and wait for nothing (R33, R49, R90). -/
theorem resetWith_pair (P : Params) :
    (∃ i, decodeSelector (State.resetWith P).selector = .ok i) ∧
      P.role = (State.resetWith P).selector.extractLsb' 5 1 ∧
      validAt (State.resetWith P).selector = 0#8 ∧ waitsFor (State.resetWith P).selector = none := by
  rw [resetWith_selector]
  rcases BitVec.eq_zero_or_eq_one P.role with h | h <;> rw [h] <;> exact ⟨⟨_, rfl⟩, rfl, rfl, rfl⟩

theorem resetWith_running (P : Params) : Running (State.resetWith P) := by
  obtain ⟨hi, hrole, -, -⟩ := resetWith_pair P
  have hfault : faultBit 0#8 = false := by decide
  exact running_iff.2 ⟨hfault, hi, hrole, rfl⟩

theorem resetWith_captured (P : Params) : Captured (State.resetWith P) := by
  obtain ⟨-, -, hvalid, -⟩ := resetWith_pair P
  rw [Captured, hvalid, BitVec.and_zero]

theorem resetWith_outstanding (P : Params) : Outstanding (State.resetWith P) := by
  obtain ⟨-, -, -, hwaits⟩ := resetWith_pair P
  rw [outstanding_iff, hwaits]
  exact ⟨rfl, rfl, rfl⟩

/-- R47: at reset the registers of either role are zero. -/
theorem resetWith_otherRoleIdle (P : Params) : OtherRoleIdle (State.resetWith P) :=
  otherRoleIdle_iff.2 ⟨fun _ => ⟨rfl, rfl, rfl, rfl, rfl, rfl, rfl, BitVec.zero_and⟩,
    fun _ => ⟨rfl, rfl, rfl, BitVec.zero_and⟩⟩

theorem resetWith_legalValues (P : Params) : LegalValues (State.resetWith P) := by
  have hzero : (0#64).toNat < 2 ^ 40 := by decide
  have hpredicted : (0#64).toNat < 2 ^ 40 + 2 ^ 16 := by decide
  have hstatus : (0#8).extractLsb' 5 3 = 0#3 ∧ (lastErr 0#8).toNat ≤ 4 := by decide
  exact ⟨⟨hzero, hzero, hpredicted, hzero, hzero, hzero, hzero⟩, hstatus, rfl, .inl rfl⟩

theorem resetWith_runInv (P : Params) : RunInv (State.resetWith P) :=
  ⟨resetWith_running P, resetWith_captured P, resetWith_outstanding P, resetWith_otherRoleIdle P,
    resetWith_legalValues P⟩

/-- Settles O53: State.reset is the reset with the default parameters. -/
theorem resetEstablishesInv : Obligations.ResetEstablishesInv := by
  unfold Obligations.ResetEstablishesInv
  exact ⟨resetWith_runInv, resetWith_runInv Params.default⟩

/-- Settles O60: RESET(role, ant_dly) keeps nothing of the state but the other parameters, and an empty TXBUF reads
0 everywhere. -/
theorem hardResetValues : Obligations.HardResetValues := by
  unfold Obligations.HardResetValues
  intro s role antDly t
  have htxbuf : ∀ a, Memory.read t.txbuf a = 0#8 := fun _ => rfl
  exact ⟨rfl, rfl, rfl, rfl, rfl, rfl, rfl, rfl, rfl, rfl, rfl, rfl, rfl, rfl, rfl, rfl, htxbuf, rfl, rfl, rfl⟩

end Sys2Proof.Machine
end
